-- ==== Sys2Proof/Word.lean ====
section
/-! DEFINITION. Bytes and two-byte fields as they cross the two ports (12_frame_and_record_formats.md). -/

namespace Sys2Proof

/-- One byte of a frame. -/
abbrev Byte := BitVec 8

/-- A two-byte field, such as a vessel tag or a settings value. -/
abbrev Half := BitVec 16

end Sys2Proof
end

