-- ==== Sys2Proof/Syntax.lean ====
section
/-! DEFINITION. The commands of the block: one constructor of `Instr` for each row of spec/opcode_table.json, with the
row's operands. Values that arrive in a frame are bytes and two-byte fields, so that a value out of range can be written. -/

namespace Sys2Proof

/-- A station of the pier, 0 to 23 (00_scope.md section 6.2). -/
abbrev StationId := Fin 24

/-- The two faces of the pier, NORTH 0 and SOUTH 1. -/
inductive Face where
  | north
  | south
  deriving DecidableEq, Repr

/-- Who sends a request on one line: the host names a station (R10); a ship of a face sends its vessel tag and a
selector (R11, R12). -/
inductive LineBy where
  | host (station : StationId)
  | ship (face : Face) (tag : Half) (selector : Byte)
  deriving DecidableEq, Repr

/-- Who sends a WINDOW_LIST (R23): the host names a face; a ship frame carries a tag and a selector that is not read. -/
inductive FaceBy where
  | host (face : Face)
  | ship (face : Face) (tag : Half) (selector : Byte)
  deriving DecidableEq, Repr

/-- A target read by the scope in the payload (Table 10-3). `other` is a scope the request does not allow, with the
target as it came: the port lets it pass and the owner refuses it (R177). -/
inductive Scoped where
  | station (station : StationId)
  | face (face : Face)
  | device
  | other (scope target : Byte)
  deriving DecidableEq, Repr

/-- The side of the band that a dwell count stands for (R72). -/
inductive BandSide where
  | below
  | above
  deriving DecidableEq, Repr

/-- The direction of one encoder count (R90). -/
inductive CountDir where
  | render
  | heave
  deriving DecidableEq, Repr

/-- The levels of a station's two encoder inputs A and B, high or low (R90). -/
structure EncoderLevels where
  a : Bool
  b : Bool
  deriving DecidableEq, Repr

/-- The reading of the two clamp switches through their filters (R96). -/
inductive SwitchReading where
  | openOnly
  | closedOnly
  | neither
  | both
  deriving DecidableEq, Repr

/-- One measured element on an infrared link, in ticks of T/8 (R184). -/
inductive Element where
  | mark (ticks : Nat)
  | space (ticks : Nat)
  deriving DecidableEq, Repr

/-- A stretch of one level on a pin: high or low, and how long it has lasted, in ns (R183, R184). -/
structure Pulse where
  high : Bool
  ns : Nat
  deriving DecidableEq, Repr

/-- The levels that the inputs have when a reset ends: those the filters take first, and the levels of SEL_N, of the
encoder inputs and of the receive inputs (R158, R82, R90, R101, R141, R174, R182). Bit s of a station field is station s,
bit 0 of a face field NORTH and bit 1 SOUTH; `encA`, `encB` and `irrx` tell which are high. -/
structure PinLevels where
  homeClosed : BitVec 24
  openMade : BitVec 24
  closedMade : BitVec 24
  encA : BitVec 24
  encB : BitVec 24
  er : BitVec 2
  irrx : BitVec 2
  selLow : Bool
  deriving DecidableEq, Repr

/-- The commands. Operands not explained by their type: `frame` is every byte of a frame in order; `edges` are the time
stamps of the rising edges in the window, in 0.1 µs (R61). SELECT_BEGIN's `bits` are the SDI bits clocked since the edge,
ENCODER_COUNT's `levels` the levels that A and B take one after another (R90), a link's `signal` the pulses on the receive
input since the start mark. START_MARK_ACCEPTED's `mark` is the pulse that has ended, `marks` how many marks have ended
before it since the receiver came to IDLE, `changes` how many changes of the face's settings were taken since it began
(R182). TURNAROUND_END's `high` is the level on the receive input. An operand with a default may be left out: no bit clocked
yet, no mark and no change before, the level high. -/
inductive Instr where
  | powerOnReset
  | selectBegin (bits : List Bool := [])
  | selectEnd
  | shoreFrameRefused (frame : List Byte)
  | shipFrameRefused (face : Face) (frame : List Byte)
  | ident
  | queryLine (sender : LineBy)
  | windowList (sender : FaceBy)
  | pushHold (sender : LineBy) (reason : Byte)
  | popHold (sender : LineBy)
  | setBand (station : StationId) (low high : Half)
  | requestBand (face : Face) (tag : Half) (selector : Byte) (low high : Half)
  | markAttached (sender : LineBy) (fittingTag : Byte)
  | payout (station : StationId) (target : Half)
  | takeUp (sender : LineBy)
  | lock (station : StationId)
  | unlock (station : StationId)
  | release (station : StationId)
  | cancel (station : StationId)
  | markClear (sender : LineBy)
  | clearFault (station : StationId) (target : Byte)
  | adopt (station : StationId) (target presence fittingTag : Byte) (low high : Half)
  | setWindow (face : Face) (base limit : Byte)
  | arrive (face : Face) (tag : Half)
  | secure (face : Face)
  | vacate (face : Face)
  | queryFace (face : Face)
  | setPlan (face : Face) (width : Byte) (timeout : Half) (stations : List Byte)
  | queryPlan (face : Face)
  | depart (face : Face)
  | pause (face : Face)
  | resume (face : Face)
  | abortDepart (face : Face)
  | emergencyRelease (face : Face)
  | summary
  | readAttention (target : Scoped)
  | ackAttention (target : Scoped) (codes : List Byte)
  | setClassMask (mask : Byte)
  | clearLinkStatus (face : Face) (flags : Byte)
  | setSetting (target : Scoped) (item : Byte) (value : Half)
  | getSetting (target : Scoped) (item : Byte)
  | erActivation (face : Face)
  | erDeactivation (face : Face)
  | releaseClaim (station : StationId)
  | emergencyPlanReport (face : Face)
  | tmSample (station : StationId) (edges : List Nat)
  | sensorFailed (station : StationId)
  | sensorRecovered (station : StationId)
  | bandDwell (station : StationId) (side : BandSide)
  | tendingCorrection (station : StationId)
  | partedLine (station : StationId)
  | lockTrip (station : StationId)
  | autoClear (station : StationId)
  | tensionEndCondition (station : StationId)
  | encoderCount (station : StationId) (levels : List EncoderLevels)
  | homeMarginSpent (station : StationId)
  | homeClosing (station : StationId)
  | homeOpening (station : StationId)
  | durationExpiry (station : StationId)
  | stallExpiry (station : StationId)
  | clampConfirm (station : StationId)
  | clampTimeout (station : StationId)
  | clampChange (station : StationId) (reading : SwitchReading)
  | easeLimitExpiry (station : StationId)
  | stateReport (station : StationId)
  | holdStackEmptied (station : StationId)
  | walkClaim (face : Face)
  | startClaim (station : StationId)
  | returnClaim (station : StationId)
  | stepTimerExpiry (station : StationId)
  | shipFrameError (face : Face) (signal : List Pulse)
  | shipFrameDiscardEnd (face : Face) (signal : List Pulse)
  | answerTransmitStart (face : Face)
  | answerSent (face : Face)
  | turnaroundEnd (face : Face) (high : Bool := true)
  | resetEnd (pins : PinLevels)
  | startMarkAccepted (face : Face) (mark : Pulse) (marks changes : Nat := 0)
  deriving DecidableEq, Repr

end Sys2Proof
end

