-- ==== Sys2Proof/Decode.lean ====
section
/-! DEFINITION. The commands that a word of spec/opcode_table.json spells. No row of the table gives bits: the commands
come by frames and pins (Machine/Frames.lean reads the frames), so no word spells one. -/

namespace Sys2Proof

/-- The command that `w` spells by the table's bits: none, since no row gives bits. -/
def decodeTableWord (_nbits _w : Nat) : Option Instr := none

end Sys2Proof
end

