-- ==== Sys2Proof/Machine/Bits.lean ====
section
/-! DEFINITION. Bytes and their bits as both ports send them, the most significant first (R174, R183, R184). -/

namespace Sys2Proof.Machine

/-- The bits of a byte, most significant first. -/
def bitsOfByte (b : Byte) : List Bool := (List.range 8).map fun k => b.getLsbD (7 - k)

/-- The bits of a frame in the order they are sent. -/
def frameBits (frame : List Byte) : List Bool := frame.flatMap bitsOfByte

/-- Eight bits as a byte, the first taken being the most significant. -/
def byteOfBits (bits : List Bool) : Byte :=
  BitVec.ofNat 8 (bits.foldl (fun n b => 2 * n + (if b then 1 else 0)) 0)

/-- The whole bytes that a run of bits has given; fewer than eight bits left over give none. -/
def wholeBytes : List Bool → List Byte
  | a :: b :: c :: d :: e :: f :: g :: h :: rest => byteOfBits [a, b, c, d, e, f, g, h] :: wholeBytes rest
  | _ => []

end Sys2Proof.Machine
end

