-- ==== Sys2Proof/Config.lean ====
section
/-! DEFINITION. What the part fixes for every run. Quantities are whole numbers of the unit named (00_scope.md Table 6-1):
tension 0.1 kN, payout 0.01 m, duration 0.1 s unless said otherwise. The spec leaves no value undefined, so there is
no uninterpreted constant here. -/

namespace Sys2Proof.Config

/-- Highest tension, 1000.0 kN (R63). -/
def tensionMax : Nat := 10000

/-- Longest payout, 250.00 m (R91). -/
def payoutMax : Nat := 25000

/-- A band is at least 5.0 kN wide (R5). -/
def bandGap : Nat := 50

/-- Counts of the Tension Monitor and the overrun saturate here (Table 3-1, R91). -/
def countMax : Nat := 65535

/-- The sample list holds at most 4 samples (R64), and 4 valid samples recover a sensor (R66). -/
def sampleDepth : Nat := 4

/-- A hold stack holds at most two entries (R13). -/
def holdDepth : Nat := 2

/-- A window holds at most 16 stations (R105), and so does a plan (R121). -/
def windowMax : Nat := 16

/-- A shore request carries at most 40 payload bytes (R175). -/
def shorePayloadMax : Nat := 40

/-- A ship request carries at most 6 payload bytes (R184). -/
def shipPayloadMax : Nat := 6

/-- The marker that opens a shore answer (R176). -/
def answerMarker : Byte := 0xA5

/-- The wait byte of the shore port (R176). -/
def waitByte : Byte := 0xEE

/-- Vendor code, part code and revision that IDENT returns (R180). -/
def vendorCode : Byte := 0x4F
def partCode : Byte := 0x24
def revisionCode : Byte := 0x12

end Sys2Proof.Config
end

