-- ==== Sys2Proof/Machine/State.lean ====
section
/-! DEFINITION. Everything the spec gives the part to hold, as plain data, and the part right after reset. -/

namespace Sys2Proof.Machine

/-- The machine has no fault of its own: each command has an effect in every state. A line's FAULT is a line state. -/
inductive Fault where
  deriving DecidableEq, Repr

/-- Raised by no meaning; the interface asks for the name. Safe: the model would stop where the hardware goes on. -/
inductive Refusal where
  | notModelled (mnemonic : String)
  deriving DecidableEq, Repr

/-! ### Line record (Table 1-1) -/

/-- The eleven line states (R24). -/
inductive LineState where
  | stowed | payout | heave | tended | locking | locked | easing | slack | rewind | fault | halted
  deriving DecidableEq, Repr

/-- A band in 0.1 kN (R5). -/
structure Band where
  low : Nat
  high : Nat
  deriving DecidableEq, Repr

/-- The parties that may hold a line (R13). -/
inductive Holder where
  | shore
  | ship
  deriving DecidableEq, Repr

/-- One entry of a hold stack (R13). -/
structure Hold where
  holder : Holder
  reason : Byte
  deriving DecidableEq, Repr

/-- Fault causes (Table 8-1). -/
inductive FaultCause where
  | parted | sensor | clamp | stall | noLoad | home | easeLimit | lockTrip
  deriving DecidableEq, Repr

/-- What a record keeps of its fault (R149). -/
structure FaultInfo where
  cause : FaultCause
  previous : LineState
  deriving DecidableEq, Repr

/-- The two phases of EASING (R45). -/
inductive EasingPhase where
  | opening
  | rendering
  deriving DecidableEq, Repr

/-! ### Tension Monitor channel (Table 3-1) -/

/-- The reports a channel hands to its line controller, in the order of R68. -/
inductive MonitorReport where
  | sensorFailed
  | sensorRecovered
  | parted
  | lockTrip
  | correction (side : BandSide)
  deriving DecidableEq, Repr

/-- One Tension Monitor channel. The recovery run is the number of samples kept aside (R66). A count that does not
apply in the present line state is 0 (R67). -/
structure Monitor where
  samples : List Nat
  failed : Bool
  invalidRun : Nat
  kept : List Nat
  below : Nat
  above : Nat
  parted : Nat
  partedGiven : Bool
  trip : Nat
  tripGiven : Bool
  clearDwell : Nat
  bandChanged : Bool
  fresh : Bool
  reports : List MonitorReport
  belowDue : Bool
  aboveDue : Bool
  clearDue : Bool
  deriving DecidableEq, Repr

/-! ### Drive and Clamp channel (Table 4-1) -/

/-- Winding in or paying off (R83). -/
inductive SegmentKind where
  | heave
  | render
  deriving DecidableEq, Repr

/-- The end conditions of a segment; tension in 0.1 kN, payout in 0.01 m (R83). -/
inductive EndCondition where
  | never
  | tensionGe (value : Nat)
  | tensionLe (value : Nat)
  | payoutGe (value : Nat)
  | payoutLe (value : Nat)
  | homeClosed
  deriving DecidableEq, Repr

/-- One piece of drum work (R83); duty in percent, duration in 0.1 s. -/
structure Segment where
  kind : SegmentKind
  duty : Nat
  duration : Option Nat
  endCondition : EndCondition
  supervised : Bool
  deriving DecidableEq, Repr

/-- What the drum is doing (R84). -/
inductive DriveMode where
  | idle
  | running
  | free
  deriving DecidableEq, Repr

/-- A position the clamp can be ordered to (R96). -/
inductive ClampPosition where
  | opened
  | closed
  deriving DecidableEq, Repr

/-- The channel's view of the clamp (Table 4-4). -/
inductive ClampField where
  | opened | closed | opening | closing | unknown
  deriving DecidableEq, Repr

/-- One Drive and Clamp Controller channel. A timer holds the length it was started with. `encoder` is the levels the
decoder last saw, and `quarters` the quarter steps of the cycle under way, positive in the render direction (R90). -/
structure Drive where
  mode : DriveMode
  dir : SegmentKind
  cur : Option Segment
  nxt : Option Segment
  durTimer : Option Nat
  stallTimer : Option Nat
  payout : Option Nat
  overrun : Nat
  encoder : EncoderLevels
  quarters : Int
  homeClosed : Bool
  command : Option ClampPosition
  field : ClampField
  reading : SwitchReading
  deadline : Option Nat
  deriving DecidableEq, Repr

/-! ### Settings (Table 12-6) -/

/-- The station settings items, in the units of Table 12-6, each with its default. -/
structure StationSettings where
  bandLow : Nat := 1500
  bandHigh : Nat := 3000
  payoutDuty : Nat := 30
  heaveDuty : Nat := 50
  easeDuty : Nat := 25
  rewindDuty : Nat := 50
  creepDuty : Nat := 10
  tendDuty : Nat := 40
  tendTime : Nat := 10
  releaseThreshold : Nat := 300
  slackThreshold : Nat := 50
  clearDwell : Nat := 100
  autoClear : Nat := 0
  easeLimit : Nat := 60
  homeMargin : Nat := 50
  hardLock : Nat := 0
  f0 : Nat := 2000
  gain : Nat := 1000
  periodMin : Nat := 500
  periodMax : Nat := 10000
  invalidLimit : Nat := 8
  bandDwell : Nat := 20
  partedThreshold : Nat := 200
  partedDwell : Nat := 3
  lockAlarm : Nat := 6000
  lockTrip : Nat := 7500
  tripDwell : Nat := 5
  stallTime : Nat := 20
  travelLimit : Nat := 30
  deriving DecidableEq, Repr

/-- The face settings items, in the units of Table 12-6, each with its default. -/
structure FaceSettings where
  minimumLines : Nat := 4
  bandFloor : Nat := 1000
  bandCeiling : Nat := 4000
  linkUnit : Nat := 500
  carrierPeriod : Nat := 250
  carrierHigh : Nat := 83
  receivePolarity : Nat := 0
  transmitPolarity : Nat := 0
  startMin : Nat := 48
  startMax : Nat := 80
  answerErrors : Nat := 1
  deriving DecidableEq, Repr

/-! ### Attention sets (Tables 9-1 and 9-2) -/

/-- The pending conditions of one station. -/
structure StationAttn where
  stateReached : Bool := false
  belowBand : Bool := false
  aboveBand : Bool := false
  lockAlarm : Bool := false
  lockDropped : Bool := false
  fault : Bool := false
  holdFull : Bool := false
  shipChange : Bool := false
  stepLate : Bool := false
  deriving DecidableEq, Repr

/-- The pending conditions of one face. -/
structure FaceAttn where
  planDone : Bool := false
  planPaused : Bool := false
  emergency : Bool := false
  linkError : Bool := false
  deriving DecidableEq, Repr

/-! ### One station -/

/-- What a line controller hands to the Departure Sequencer: the state the line entered (R24), or that its hold stack
has been emptied by a pop (R17). -/
inductive LineReport where
  | entered (state : LineState)
  | holdsEmptied
  deriving DecidableEq, Repr

/-- One station: its line record, its two channels, its settings, its attention set, the reports handed to the
sequencer and not yet taken, and the release claims handed out and not yet taken. -/
structure Station where
  state : LineState
  vesselTag : Option Half
  fittingTag : Option Byte
  band : Option Band
  holds : List Hold
  fault : Option FaultInfo
  clearRemembered : Option Bool
  easingPhase : Option EasingPhase
  easeTimer : Option Nat
  creepSpent : Option Nat
  monitor : Monitor
  drive : Drive
  settings : StationSettings
  attn : StationAttn
  toSequencer : List LineReport
  releaseClaims : Nat
  deriving DecidableEq, Repr

/-! ### Answers and the two kinds of port -/

/-- Status codes (Table 12-4). -/
inductive Status where
  | ok | okClamped | accepted
  | badCheck | badLength | unknownRequest | badTarget | badValue | wrongState | held | holdFull | holdOrder | tooLate
  | inPlan | outsideWindow | notFound | noGrant | tagMismatch | duplicateTag | notStowed | emergency | sensor
  deriving DecidableEq, Repr

/-- An answer: its status and its payload bytes (R176). -/
structure Answer where
  status : Status
  payload : List Byte
  deriving DecidableEq, Repr

/-- The phases of the shore port (R174). -/
inductive ShorePhase where
  | idle | receiving | waiting | answering
  deriving DecidableEq, Repr

/-- The shore port. `bitCount` counts the bits of the request taken since SEL_N fell, and `received` keeps those of a
request whose end has not come. `atOnce` tells that the answer formed at the end of the request, without a wait byte
(R176, R177, R180). -/
structure ShorePort where
  phase : ShorePhase
  selLow : Bool
  bitCount : Nat
  received : List Bool
  answer : Option Answer
  atOnce : Bool
  deriving DecidableEq, Repr

/-- Receiver states (Table 11-3). -/
inductive RxState where
  | idle | start | bits | discard | blanked
  deriving DecidableEq, Repr

/-- An answer frame in the transmitter, with the tag of the frame it answers (R187). -/
structure TxFrame where
  tag : Half
  answer : Answer
  deriving DecidableEq, Repr

/-- The link status flags of one face (R189). -/
structure LinkFlags where
  frameError : Bool := false
  outsideWindow : Bool := false
  tagMismatch : Bool := false
  noGrant : Bool := false
  deriving DecidableEq, Repr

/-- One ship link. `rxSettings` and `txSettings` are the settings in force for the frame being received and the frame
being sent (R182). While the receiver is IDLE, `ignoring` tells that a mark in progress is ignored until it ends (R182,
R185, R186), and `earlier` keeps the settings replaced since it came to IDLE, the last replaced first. -/
structure Link where
  rx : RxState
  ignoring : Bool
  earlier : List FaceSettings
  rxSettings : FaceSettings
  current : Option TxFrame
  waiting : Option TxFrame
  sending : Bool
  txSettings : FaceSettings
  flags : LinkFlags
  deriving DecidableEq, Repr

/-! ### Departure Sequencer (Tables 6-1 to 6-3) -/

/-- Entry statuses (Table 6-2). -/
inductive EntryStatus where
  | waiting | blocked | easing | returned | slack | done | skipped | failed
  deriving DecidableEq, Repr

/-- One plan entry. -/
structure PlanEntry where
  station : StationId
  status : EntryStatus
  timer : Option Nat
  late : Bool
  deriving DecidableEq, Repr

/-- Why a sequencer is paused (Table 6-1). -/
inductive PauseReason where
  | host
  | failed
  deriving DecidableEq, Repr

/-- Sequencer states, with the pause reason in PAUSED (Table 6-3). -/
inductive SeqState where
  | idle
  | running
  | paused (reason : PauseReason)
  | done
  deriving DecidableEq, Repr

/-- One Departure Sequencer, with the claims it is to make next: the walk claim at the cursor, the start claims of
RETURNED entries and the return claims of an abort. -/
structure Sequencer where
  entries : List PlanEntry
  width : Nat
  timeout : Nat
  state : SeqState
  cursor : Nat
  walkOwed : Bool
  startsOwed : List StationId
  returnsOwed : List StationId
  deriving DecidableEq, Repr

/-! ### One face -/

/-- Grant states (Table 5-2). -/
inductive GrantState where
  | vacant | approach | moored | departing | cleared
  deriving DecidableEq, Repr

/-- A window: base and inclusive limit (R105). -/
structure Window where
  base : StationId
  limit : StationId
  deriving DecidableEq, Repr

/-- One face: its grant, window, settings, filtered ER level, sequencer, emergency reports not yet taken, ship link and
attention set. -/
structure FaceState where
  grant : GrantState
  tag : Half
  window : Option Window
  settings : FaceSettings
  erActive : Bool
  planReports : Nat
  sequencer : Sequencer
  link : Link
  attn : FaceAttn
  deriving DecidableEq, Repr

/-! ### The part -/

/-- The whole part, and the queue of the commands that wait. -/
structure State where
  pending : List Instr
  inReset : Bool
  stations : Vector Station 24
  northFace : FaceState
  southFace : FaceState
  urgentMasked : Bool
  routineMasked : Bool
  shore : ShorePort
  deriving DecidableEq, Repr

/-! ### Reset values (Table 8-4) -/

/-- A Tension Monitor channel after reset (R60). -/
def Monitor.reset : Monitor where
  samples := []
  failed := false
  invalidRun := 0
  kept := []
  below := 0
  above := 0
  parted := 0
  partedGiven := false
  trip := 0
  tripGiven := false
  clearDwell := 0
  bandChanged := false
  fresh := true
  reports := []
  belowDue := false
  aboveDue := false
  clearDue := false

/-- A Drive and Clamp channel after reset (Table 4-2), with no switch made and both encoder inputs low. DESIGN
CHOICE: the levels, log 2. -/
def Drive.reset : Drive where
  mode := .idle
  dir := .heave
  cur := none
  nxt := none
  durTimer := none
  stallTimer := none
  payout := none
  overrun := 0
  encoder := ⟨false, false⟩
  quarters := 0
  homeClosed := false
  command := none
  field := .unknown
  reading := .neither
  deadline := none

/-- A station after reset (Table 1-3): HALTED with the default band. -/
def Station.reset : Station where
  state := .halted
  vesselTag := none
  fittingTag := none
  band := some ⟨1500, 3000⟩
  holds := []
  fault := none
  clearRemembered := none
  easingPhase := none
  easeTimer := none
  creepSpent := none
  monitor := .reset
  drive := .reset
  settings := {}
  attn := {}
  toSequencer := []
  releaseClaims := 0

/-- A Departure Sequencer after reset (R120). -/
def Sequencer.reset : Sequencer where
  entries := []
  width := 1
  timeout := 120
  state := .idle
  cursor := 0
  walkOwed := false
  startsOwed := []
  returnsOwed := []

/-- A ship link after reset, with no mark on its receive input (R182). DESIGN CHOICE: the level, log 2. -/
def Link.reset : Link where
  rx := .idle
  ignoring := false
  earlier := []
  rxSettings := {}
  current := none
  waiting := none
  sending := false
  txSettings := {}
  flags := {}

/-- A face after reset (R104, R120, R141, R168, R182). -/
def FaceState.reset : FaceState where
  grant := .vacant
  tag := 0
  window := none
  settings := {}
  erActive := false
  planReports := 0
  sequencer := .reset
  link := .reset
  attn := {}

/-- The shore port after reset (R174). -/
def ShorePort.reset : ShorePort where
  phase := .idle
  selLow := false
  bitCount := 0
  received := []
  answer := none
  atOnce := false

/-- The part right after reset (R158, Table 8-4): RESET_N has risen, no input switch is made, no ER input is active,
SEL_N is high and no receive input shows a mark. DESIGN CHOICE: the levels of the pins, log 2. -/
def State.reset : State where
  pending := []
  inReset := false
  stations := Vector.replicate 24 .reset
  northFace := .reset
  southFace := .reset
  urgentMasked := false
  routineMasked := true
  shore := .reset

end Sys2Proof.Machine
end

