-- ==== Sys2Proof/Machine/Operands.lean ====
section
/-! DEFINITION. Operand forms: the codes of Tables 12-3 and 12-4, two-byte fields, the band test and the window operand. -/

namespace Sys2Proof.Machine

/-! ### Bytes -/

/-- A two-byte field, most significant byte first (R190). -/
def halfBytes (x : Half) : List Byte := [x.extractLsb' 8 8, x.extractLsb' 0 8]

/-- A number as a two-byte field. -/
def natBytes (n : Nat) : List Byte := halfBytes (BitVec.ofNat 16 n)

/-- A number as one byte. -/
def natByte (n : Nat) : Byte := BitVec.ofNat 8 n

/-- Two bytes, the most significant first, as a field. -/
def joinHalf (high low : Byte) : Half := high ++ low

/-- The 8-bit sum of the bytes of a frame (R177). -/
def byteSum (bytes : List Byte) : Byte := bytes.foldl (· + ·) 0

/-- The check byte that makes the 8-bit sum 0 (R177). -/
def checkByte (bytes : List Byte) : Byte := -(byteSum bytes)

/-- One bit of a payload byte, at place `k`. -/
def bitAt (b : Bool) (k : Nat) : Byte := if b then BitVec.ofNat 8 (2 ^ k) else 0

/-! ### Codes of Table 12-3 -/

def LineState.code : LineState → Byte
  | .stowed => 0 | .payout => 1 | .heave => 2 | .tended => 3 | .locking => 4 | .locked => 5 | .easing => 6
  | .slack => 7 | .rewind => 8 | .fault => 9 | .halted => 10

def FaultCause.code : FaultCause → Byte
  | .parted => 1 | .sensor => 2 | .clamp => 3 | .stall => 4 | .noLoad => 5 | .home => 6 | .easeLimit => 7 | .lockTrip => 8

def ClampField.code : ClampField → Byte
  | .opened => 0 | .closed => 1 | .opening => 2 | .closing => 3 | .unknown => 4

def Holder.code : Holder → Byte
  | .shore => 0 | .ship => 1

def faceCode : Face → Byte
  | .north => 0 | .south => 1

/-- The face byte of a record: 0xFF for none. -/
def faceByte : Option Face → Byte
  | some f => faceCode f
  | none => 0xFF

def GrantState.code : GrantState → Byte
  | .vacant => 0 | .approach => 1 | .moored => 2 | .departing => 3 | .cleared => 4

def SeqState.code : SeqState → Byte
  | .idle => 0 | .running => 1 | .paused _ => 2 | .done => 3

def SeqState.reasonCode : SeqState → Byte
  | .paused .host => 1 | .paused .failed => 2 | _ => 0

def EntryStatus.code : EntryStatus → Byte
  | .waiting => 0 | .blocked => 1 | .easing => 2 | .returned => 3 | .slack => 4 | .done => 5 | .skipped => 6 | .failed => 7

/-- Status codes of Table 12-4. -/
def Status.code : Status → Byte
  | .ok => 0x00 | .okClamped => 0x01 | .accepted => 0x02 | .badCheck => 0x10 | .badLength => 0x11
  | .unknownRequest => 0x12 | .badTarget => 0x13 | .badValue => 0x14 | .wrongState => 0x15 | .held => 0x16
  | .holdFull => 0x17 | .holdOrder => 0x18 | .tooLate => 0x19 | .inPlan => 0x1A | .outsideWindow => 0x1B
  | .notFound => 0x1C | .noGrant => 0x1D | .tagMismatch => 0x1E | .duplicateTag => 0x1F | .notStowed => 0x20
  | .emergency => 0x21 | .sensor => 0x22

/-- The port's own refusals, whose answer forms at once (R177). -/
def Status.ofPort : Status → Bool
  | .badCheck | .badLength | .unknownRequest | .badTarget => true
  | _ => false

/-- The request was taken: OK, OK_CLAMPED or ACCEPTED. -/
def Status.taken : Status → Bool
  | .ok | .okClamped | .accepted => true
  | _ => false

/-- A refusal: its status and no payload (R190). -/
def refusal (status : Status) : Answer := ⟨status, []⟩

/-! ### Operands of single requests -/

/-- The resume targets that CLEAR_FAULT may name (R152). -/
def resumeTarget (b : Byte) : Option LineState :=
  if b = LineState.tended.code then some .tended
  else if b = LineState.locked.code then some .locked
  else if b = LineState.slack.code then some .slack
  else if b = LineState.rewind.code then some .rewind
  else none

/-- The target states that ADOPT may name (R160). -/
def adoptTarget (b : Byte) : Option LineState :=
  if b = LineState.stowed.code then some .stowed
  else if b = LineState.locked.code then some .locked
  else if b = LineState.tended.code then some .tended
  else if b = LineState.slack.code then some .slack
  else none

/-- A fitting tag lies from 1 to 99 (R4). -/
def tagInRange (tag : Byte) : Bool := decide (1 ≤ tag.toNat) && decide (tag.toNat ≤ 99)

/-- The test of a band: 0 < low and low + 5.0 ≤ high ≤ 1000.0 kN (R5). -/
def Band.valid (b : Band) : Bool :=
  decide (0 < b.low) && decide (b.low + Config.bandGap ≤ b.high) && decide (b.high ≤ Config.tensionMax)

/-- The band midpoint, rounded down to 0.1 kN (R5). -/
def Band.midpoint (b : Band) : Nat := (b.low + b.high) / 2

/-- A value held between a floor and a ceiling (R19). -/
def saturateInto (floor ceiling value : Nat) : Nat := min ceiling (max floor value)

/-- The window operand of SET_WINDOW: both bytes 0xFF mean none; the outer `none` is a base and limit that fail check 1
of R106. -/
def windowOperand (base limit : Byte) : Option (Option Window) :=
  if base = 0xFF ∧ limit = 0xFF then some none
  else if h : base.toNat ≤ limit.toNat ∧ limit.toNat < 24 ∧ limit.toNat - base.toNat + 1 ≤ Config.windowMax then
    some (some ⟨⟨base.toNat, by omega⟩, ⟨limit.toNat, h.2.1⟩⟩)
  else none

/-- A byte as a station number, when it is below 24. -/
def stationOf (b : Byte) : Option StationId :=
  if h : b.toNat < 24 then some ⟨b.toNat, h⟩ else none

/-- A byte as a face number, when it is 0 or 1. -/
def faceOfByte (b : Byte) : Option Face :=
  if b = 0 then some .north else if b = 1 then some .south else none

end Sys2Proof.Machine
end

