-- ==== Sys2Proof/Machine/Flags.lean ====
section
/-! DEFINITION. Attention conditions, link status flags, the class mask and the ATTN output (chapters 9 and 11). -/

namespace Sys2Proof.Machine

/-- Station conditions (Table 9-1). -/
inductive StationCondition where
  | stateReached | belowBand | aboveBand | lockAlarm | lockDropped | fault | holdFull | shipChange | stepLate
  deriving DecidableEq, Repr

/-- Face conditions (Table 9-2). -/
inductive FaceCondition where
  | planDone | planPaused | emergency | linkError
  deriving DecidableEq, Repr

/-- Condition classes (R165). -/
inductive AttnClass where
  | urgent
  | routine
  deriving DecidableEq, Repr

/-- The conditions of a station set, in the order of their codes (Table 12-3). -/
def StationCondition.all : List StationCondition :=
  [.stateReached, .belowBand, .aboveBand, .lockAlarm, .lockDropped, .fault, .holdFull, .shipChange, .stepLate]

/-- The conditions of a face set, in the order of their codes. -/
def FaceCondition.all : List FaceCondition := [.planDone, .planPaused, .emergency, .linkError]

def StationCondition.code : StationCondition → Nat
  | .stateReached => 0 | .belowBand => 1 | .aboveBand => 2 | .lockAlarm => 3 | .lockDropped => 4 | .fault => 5
  | .holdFull => 6 | .shipChange => 7 | .stepLate => 8

def FaceCondition.code : FaceCondition → Nat
  | .planDone => 0 | .planPaused => 1 | .emergency => 2 | .linkError => 3

/-- The class of a station condition (Table 9-1). -/
def StationCondition.cls : StationCondition → AttnClass
  | .lockAlarm | .lockDropped | .fault => .urgent
  | .stateReached | .belowBand | .aboveBand | .holdFull | .shipChange | .stepLate => .routine

/-- The class of a face condition (Table 9-2). -/
def FaceCondition.cls : FaceCondition → AttnClass
  | .emergency => .urgent
  | .planDone | .planPaused | .linkError => .routine

/-- A latch is cleared by acknowledgement; a level follows its cause (R166, R167). -/
def StationCondition.isLatch : StationCondition → Bool
  | .belowBand | .aboveBand | .lockAlarm => false
  | .stateReached | .lockDropped | .fault | .holdFull | .shipChange | .stepLate => true

def FaceCondition.isLatch : FaceCondition → Bool
  | .linkError => false
  | .planDone | .planPaused | .emergency => true

/-- Whether a condition is pending in a station set. -/
def StationAttn.has (a : StationAttn) : StationCondition → Bool
  | .stateReached => a.stateReached | .belowBand => a.belowBand | .aboveBand => a.aboveBand
  | .lockAlarm => a.lockAlarm | .lockDropped => a.lockDropped | .fault => a.fault | .holdFull => a.holdFull
  | .shipChange => a.shipChange | .stepLate => a.stepLate

/-- A station set with one condition made pending or not pending. -/
def StationAttn.put (a : StationAttn) (k : StationCondition) (b : Bool) : StationAttn :=
  match k with
  | .stateReached => { a with stateReached := b }
  | .belowBand => { a with belowBand := b }
  | .aboveBand => { a with aboveBand := b }
  | .lockAlarm => { a with lockAlarm := b }
  | .lockDropped => { a with lockDropped := b }
  | .fault => { a with fault := b }
  | .holdFull => { a with holdFull := b }
  | .shipChange => { a with shipChange := b }
  | .stepLate => { a with stepLate := b }

/-- Whether a condition is pending in a face set. -/
def FaceAttn.has (a : FaceAttn) : FaceCondition → Bool
  | .planDone => a.planDone | .planPaused => a.planPaused | .emergency => a.emergency | .linkError => a.linkError

/-- A face set with one condition made pending or not pending. -/
def FaceAttn.put (a : FaceAttn) (k : FaceCondition) (b : Bool) : FaceAttn :=
  match k with
  | .planDone => { a with planDone := b }
  | .planPaused => { a with planPaused := b }
  | .emergency => { a with emergency := b }
  | .linkError => { a with linkError := b }

/-- A set with the named latches acknowledged; a named level is unaffected (R173). -/
def StationAttn.acknowledge (a : StationAttn) (named : List StationCondition) : StationAttn :=
  named.foldl (fun a k => if k.isLatch then a.put k false else a) a

def FaceAttn.acknowledge (a : FaceAttn) (named : List FaceCondition) : FaceAttn :=
  named.foldl (fun a k => if k.isLatch then a.put k false else a) a

/-- The pending set as a number: bit k is the condition with code k (chapter 12). -/
def StationAttn.bits (a : StationAttn) : Nat :=
  StationCondition.all.foldl (fun n k => if a.has k then n + 2 ^ k.code else n) 0

def FaceAttn.bits (a : FaceAttn) : Nat :=
  FaceCondition.all.foldl (fun n k => if a.has k then n + 2 ^ k.code else n) 0

/-- Whether a set has a pending condition of a class (R171). -/
def StationAttn.hasClass (a : StationAttn) (c : AttnClass) : Bool :=
  StationCondition.all.any fun k => a.has k && decide (k.cls = c)

def FaceAttn.hasClass (a : FaceAttn) (c : AttnClass) : Bool :=
  FaceCondition.all.any fun k => a.has k && decide (k.cls = c)

/-- The condition of a scope's table with a code, when there is one (R173). -/
def StationCondition.ofCode (b : Byte) : Option StationCondition :=
  StationCondition.all.find? fun k => decide (k.code = b.toNat)

def FaceCondition.ofCode (b : Byte) : Option FaceCondition :=
  FaceCondition.all.find? fun k => decide (k.code = b.toNat)

/-- Every byte read as a condition, or none when one of them names no condition of the table. -/
def readCodes {α : Type} (read : Byte → Option α) : List Byte → Option (List α)
  | [] => some []
  | b :: rest =>
    match read b, readCodes read rest with
    | some k, some ks => some (k :: ks)
    | _, _ => none

/-- Whether a class is unmasked (R169). -/
def State.unmasked (s : State) : AttnClass → Bool
  | .urgent => !s.urgentMasked
  | .routine => !s.routineMasked

/-- ATTN is asserted exactly while a pending condition of any set belongs to an unmasked class (R169). -/
def State.attnAsserted (s : State) : Bool :=
  [AttnClass.urgent, AttnClass.routine].any fun c =>
    s.unmasked c &&
      (s.stations.toList.any (fun st => st.attn.hasClass c) || s.northFace.attn.hasClass c || s.southFace.attn.hasClass c)

/-! ### Link status flags (R189) -/

/-- The four flags of a face. -/
inductive LinkFlag where
  | frameError | outsideWindow | tagMismatch | noGrant
  deriving DecidableEq, Repr

def LinkFlags.raise (l : LinkFlags) : LinkFlag → LinkFlags
  | .frameError => { l with frameError := true }
  | .outsideWindow => { l with outsideWindow := true }
  | .tagMismatch => { l with tagMismatch := true }
  | .noGrant => { l with noGrant := true }

def LinkFlags.anySet (l : LinkFlags) : Bool := l.frameError || l.outsideWindow || l.tagMismatch || l.noGrant

/-- The flags with those of a flag set cleared; bit 0 FRAME_ERROR, 1 OUTSIDE_WINDOW, 2 TAG_MISMATCH, 3 NO_GRANT. -/
def LinkFlags.clear (l : LinkFlags) (set : Byte) : LinkFlags where
  frameError := l.frameError && !set.getLsbD 0
  outsideWindow := l.outsideWindow && !set.getLsbD 1
  tagMismatch := l.tagMismatch && !set.getLsbD 2
  noGrant := l.noGrant && !set.getLsbD 3

def LinkFlags.byte (l : LinkFlags) : Byte :=
  bitAt l.frameError 0 ||| bitAt l.outsideWindow 1 ||| bitAt l.tagMismatch 2 ||| bitAt l.noGrant 3

end Sys2Proof.Machine
end

