-- ==== Sys2Proof/Machine/Frames.lean ====
section
/-! DEFINITION. The request frames of both ports (Tables 12-1 and 12-2): reading a whole frame with the checks of R177
and R187, and writing the frame of a request. -/

namespace Sys2Proof.Machine

/-- What the shore port makes of the bytes it has taken. -/
inductive ShoreRead where
  | incomplete
  | refused (status : Status)
  | request (i : Instr)
  deriving DecidableEq, Repr

/-- A request whose target is a station (Table 10-3). -/
def onStation (target : Byte) (k : StationId → Instr) : ShoreRead :=
  match stationOf target with
  | some i => .request (k i)
  | none => .refused .badTarget

/-- A request whose target is a face. -/
def onFaceTarget (target : Byte) (k : Face → Instr) : ShoreRead :=
  match faceOfByte target with
  | some f => .request (k f)
  | none => .refused .badTarget

/-- A request whose target is the device. -/
def onDevice (target : Byte) (i : Instr) : ShoreRead := if target = 0 then .request i else .refused .badTarget

/-- A target read by the scope in the payload; a scope the request does not allow passes unchecked (R177). -/
def readScoped (device : Bool) (scope target : Byte) : Option Scoped :=
  if scope = 0 then (stationOf target).map Scoped.station
  else if scope = 1 then (faceOfByte target).map Scoped.face
  else if device = true ∧ scope = 2 then if target = 0 then some .device else none
  else some (.other scope target)

/-- A request whose target kind is by scope. -/
def onScope (device : Bool) (scope target : Byte) (k : Scoped → Instr) : ShoreRead :=
  match readScoped device scope target with
  | some t => .request (k t)
  | none => .refused .badTarget

/-- Checks 3 to 5 of R177: the code is one the shore port takes, the length is one the code allows, the target lies in
the range of the code's target kind. -/
def readShoreRequest (code target : Byte) (payload : List Byte) : ShoreRead :=
  match code.toNat, payload with
  | 0x01, [] => onDevice target .ident
  | 0x10, [] => onStation target fun i => .queryLine (.host i)
  | 0x11, [] => onFaceTarget target fun f => .windowList (.host f)
  | 0x12, [r] => onStation target fun i => .pushHold (.host i) r
  | 0x13, [] => onStation target fun i => .popHold (.host i)
  | 0x14, [a, b, c, d] => onStation target fun i => .setBand i (joinHalf a b) (joinHalf c d)
  | 0x16, [t] => onStation target fun i => .markAttached (.host i) t
  | 0x20, [a, b] => onStation target fun i => .payout i (joinHalf a b)
  | 0x21, [] => onStation target fun i => .takeUp (.host i)
  | 0x22, [] => onStation target .lock
  | 0x23, [] => onStation target .unlock
  | 0x24, [] => onStation target .release
  | 0x25, [] => onStation target .cancel
  | 0x26, [] => onStation target fun i => .markClear (.host i)
  | 0x28, [t] => onStation target fun i => .clearFault i t
  | 0x29, [t, p, g, a, b, c, d] => onStation target fun i => .adopt i t p g (joinHalf a b) (joinHalf c d)
  | 0x30, [b, l] => onFaceTarget target fun f => .setWindow f b l
  | 0x31, [a, b] => onFaceTarget target fun f => .arrive f (joinHalf a b)
  | 0x32, [] => onFaceTarget target .secure
  | 0x33, [] => onFaceTarget target .vacate
  | 0x34, [] => onFaceTarget target .queryFace
  | 0x38, w :: a :: b :: x :: xs =>
    if xs.length < Config.windowMax then onFaceTarget target fun f => .setPlan f w (joinHalf a b) (x :: xs)
    else .refused .badLength
  | 0x39, [] => onFaceTarget target .queryPlan
  | 0x3A, [] => onFaceTarget target .depart
  | 0x3B, [] => onFaceTarget target .pause
  | 0x3C, [] => onFaceTarget target .resume
  | 0x3D, [] => onFaceTarget target .abortDepart
  | 0x40, [] => onFaceTarget target .emergencyRelease
  | 0x48, [] => onDevice target .summary
  | 0x49, [s] => onScope false s target .readAttention
  | 0x4A, s :: codes =>
    if codes.length ≤ 9 then onScope false s target fun t => .ackAttention t codes else .refused .badLength
  | 0x4B, [m] => onDevice target (.setClassMask m)
  | 0x50, [x] => onFaceTarget target fun f => .clearLinkStatus f x
  | 0x58, [s, k, a, b] => onScope true s target fun t => .setSetting t k (joinHalf a b)
  | 0x59, [s, k] => onScope true s target fun t => .getSetting t k
  | n, _ =>
    if n ∈ [0x01, 0x10, 0x11, 0x12, 0x13, 0x14, 0x16, 0x20, 0x21, 0x22, 0x23, 0x24, 0x25, 0x26, 0x28, 0x29, 0x30, 0x31,
        0x32, 0x33, 0x34, 0x38, 0x39, 0x3A, 0x3B, 0x3C, 0x3D, 0x40, 0x48, 0x49, 0x4A, 0x4B, 0x50, 0x58, 0x59] then
      .refused .badLength
    else .refused .unknownRequest

/-- The shore port's reading of a frame (R175, R177): a length above 40 ends the request; else the sum is checked before
anything else. -/
def readShoreFrame (frame : List Byte) : ShoreRead :=
  match frame with
  | code :: target :: n :: rest =>
    if Config.shorePayloadMax < n.toNat then (if rest = [] then .refused .badLength else .incomplete)
    else if rest.length ≠ n.toNat + 1 then .incomplete
    else if byteSum frame ≠ 0 then .refused .badCheck
    else readShoreRequest code target (rest.take n.toNat)
  | _ => .incomplete

/-- A frame of a code, a target and a payload, closed by its check byte (Table 12-1). -/
def shoreFrame (code target : Byte) (payload : List Byte) : List Byte :=
  let body := code :: target :: natByte payload.length :: payload
  body ++ [checkByte body]

/-- The scope byte and the target byte of a by-scope request. -/
def scopeByte : Scoped → Byte
  | .station _ => 0 | .face _ => 1 | .device => 2 | .other s _ => s

def scopeTarget : Scoped → Byte
  | .station i => natByte i.val | .face f => faceCode f | .device => 0 | .other _ t => t

/-- The code, target and payload of a host request; none for a command that is no host request (Table 12-2). -/
def shoreRequest : Instr → Option (Byte × Byte × List Byte)
  | .ident => some (0x01, 0, [])
  | .queryLine (.host i) => some (0x10, natByte i.val, [])
  | .windowList (.host f) => some (0x11, faceCode f, [])
  | .pushHold (.host i) r => some (0x12, natByte i.val, [r])
  | .popHold (.host i) => some (0x13, natByte i.val, [])
  | .setBand i low high => some (0x14, natByte i.val, halfBytes low ++ halfBytes high)
  | .markAttached (.host i) t => some (0x16, natByte i.val, [t])
  | .payout i t => some (0x20, natByte i.val, halfBytes t)
  | .takeUp (.host i) => some (0x21, natByte i.val, [])
  | .lock i => some (0x22, natByte i.val, [])
  | .unlock i => some (0x23, natByte i.val, [])
  | .release i => some (0x24, natByte i.val, [])
  | .cancel i => some (0x25, natByte i.val, [])
  | .markClear (.host i) => some (0x26, natByte i.val, [])
  | .clearFault i t => some (0x28, natByte i.val, [t])
  | .adopt i t p g low high => some (0x29, natByte i.val, [t, p, g] ++ halfBytes low ++ halfBytes high)
  | .setWindow f b l => some (0x30, faceCode f, [b, l])
  | .arrive f t => some (0x31, faceCode f, halfBytes t)
  | .secure f => some (0x32, faceCode f, [])
  | .vacate f => some (0x33, faceCode f, [])
  | .queryFace f => some (0x34, faceCode f, [])
  | .setPlan f w t stations => some (0x38, faceCode f, w :: halfBytes t ++ stations)
  | .queryPlan f => some (0x39, faceCode f, [])
  | .depart f => some (0x3A, faceCode f, [])
  | .pause f => some (0x3B, faceCode f, [])
  | .resume f => some (0x3C, faceCode f, [])
  | .abortDepart f => some (0x3D, faceCode f, [])
  | .emergencyRelease f => some (0x40, faceCode f, [])
  | .summary => some (0x48, 0, [])
  | .readAttention t => some (0x49, scopeTarget t, [scopeByte t])
  | .ackAttention t codes => some (0x4A, scopeTarget t, scopeByte t :: codes)
  | .setClassMask m => some (0x4B, 0, [m])
  | .clearLinkStatus f x => some (0x50, faceCode f, [x])
  | .setSetting t k v => some (0x58, scopeTarget t, [scopeByte t, k] ++ halfBytes v)
  | .getSetting t k => some (0x59, scopeTarget t, [scopeByte t, k])
  | _ => none

/-- The frame of a host request (Table 12-1). -/
def shoreFrameOf (i : Instr) : Option (List Byte) := (shoreRequest i).map fun r => shoreFrame r.1 r.2.1 r.2.2

/-! ### Ship frames -/

/-- What a ship link makes of a whole frame at steps 2 to 4 of R187. -/
inductive ShipRead where
  | incomplete
  | refused (tag : Half) (status : Status)
  | request (i : Instr)
  deriving DecidableEq, Repr

/-- Steps 3 and 4 of R187: the code is one of the eight ship requests and the length is the one it takes. -/
def readShipRequest (f : Face) (tag : Half) (code selector : Byte) (payload : List Byte) : ShipRead :=
  match code.toNat, payload with
  | 0x10, [] => .request (.queryLine (.ship f tag selector))
  | 0x11, [] => .request (.windowList (.ship f tag selector))
  | 0x12, [r] => .request (.pushHold (.ship f tag selector) r)
  | 0x13, [] => .request (.popHold (.ship f tag selector))
  | 0x15, [a, b, c, d] => .request (.requestBand f tag selector (joinHalf a b) (joinHalf c d))
  | 0x16, [t] => .request (.markAttached (.ship f tag selector) t)
  | 0x21, [] => .request (.takeUp (.ship f tag selector))
  | 0x26, [] => .request (.markClear (.ship f tag selector))
  | n, _ =>
    if n ∈ [0x10, 0x11, 0x12, 0x13, 0x15, 0x16, 0x21, 0x26] then .refused tag .badLength
    else .refused tag .unknownRequest

/-- A whole ship frame (R187, steps 2 to 4). -/
def readShipFrame (f : Face) (frame : List Byte) : ShipRead :=
  match frame with
  | a :: b :: code :: selector :: n :: rest =>
    if Config.shipPayloadMax < n.toNat ∨ rest.length ≠ n.toNat + 1 then .incomplete
    else if byteSum frame ≠ 0 then .refused (joinHalf a b) .badCheck
    else readShipRequest f (joinHalf a b) code selector (rest.take n.toNat)
  | _ => .incomplete

/-- The tag, code, selector and payload of a ship request; none for a command that is no ship request. -/
def shipRequestOf : Instr → Option (Half × Byte × Byte × List Byte)
  | .queryLine (.ship _ tag sel) => some (tag, 0x10, sel, [])
  | .windowList (.ship _ tag sel) => some (tag, 0x11, sel, [])
  | .pushHold (.ship _ tag sel) r => some (tag, 0x12, sel, [r])
  | .popHold (.ship _ tag sel) => some (tag, 0x13, sel, [])
  | .requestBand _ tag sel low high => some (tag, 0x15, sel, halfBytes low ++ halfBytes high)
  | .markAttached (.ship _ tag sel) t => some (tag, 0x16, sel, [t])
  | .takeUp (.ship _ tag sel) => some (tag, 0x21, sel, [])
  | .markClear (.ship _ tag sel) => some (tag, 0x26, sel, [])
  | _ => none

/-- The face whose link a ship request comes over. -/
def shipFaceOf : Instr → Option Face
  | .queryLine (.ship f _ _) | .windowList (.ship f _ _) | .pushHold (.ship f _ _) _ | .popHold (.ship f _ _)
  | .requestBand f _ _ _ _ | .markAttached (.ship f _ _) _ | .takeUp (.ship f _ _) | .markClear (.ship f _ _) => some f
  | _ => none

/-- The frame of a ship request (Table 12-1). -/
def shipFrameOf (i : Instr) : Option (List Byte) :=
  (shipRequestOf i).map fun r =>
    let body := halfBytes r.1 ++ r.2.1 :: r.2.2.1 :: natByte r.2.2.2.length :: r.2.2.2
    body ++ [checkByte body]

end Sys2Proof.Machine
end

