-- ==== Sys2Proof/Machine/Ops.lean ====
section
/-! DEFINITION. The named operations over State: one home for every read and write of a station, a face, an attention
condition and a link flag; where a line's reports go; how each kind of command is let in. -/

namespace Sys2Proof.Machine

/-- What one command answers. -/
abbrev Out := Host.Outcome State Fault Refusal

/-! ### Stations and faces -/

/-- The station of a number. -/
def State.st (s : State) (i : StationId) : Station := s.stations[i]

/-- The part with one station replaced. -/
def State.setSt (s : State) (i : StationId) (c : Station) : State := { s with stations := s.stations.set i c }

/-- The part with every station that `p` picks changed by `g`. -/
def State.mapStations (s : State) (p : StationId → Bool) (g : Station → Station) : State :=
  { s with stations := Vector.ofFn fun i => if p i then g (s.st i) else s.st i }

/-- The face of a name. -/
def State.face (s : State) : Face → FaceState
  | .north => s.northFace
  | .south => s.southFace

/-- The part with one face replaced. -/
def State.setFace (s : State) (f : Face) (x : FaceState) : State :=
  match f with
  | .north => { s with northFace := x }
  | .south => { s with southFace := x }

/-- The part with one face changed. -/
def State.onFace (s : State) (f : Face) (g : FaceState → FaceState) : State := s.setFace f (g (s.face f))

/-- The other face. -/
def otherFace : Face → Face
  | .north => .south
  | .south => .north

/-- Every station number, in order. -/
def allStations : List StationId := List.ofFn id

/-! ### Windows (R105) -/

/-- Station `i` lies in the window: base ≤ i ≤ limit. -/
def Window.has (w : Window) (i : StationId) : Bool := decide (w.base ≤ i) && decide (i ≤ w.limit)

/-- The number of stations of a window, limit − base + 1. -/
def Window.size (w : Window) : Nat := w.limit.val - w.base.val + 1

/-- Station `i` lies in a window that may be none. -/
def inWindow : Option Window → StationId → Bool
  | some w, i => w.has i
  | none, _ => false

/-- The stations of a window, in station order. -/
def windowStations (w : Option Window) : List StationId := allStations.filter (inWindow w)

/-- The face of a record, derived from the two windows (R2). -/
def State.faceOf (s : State) (i : StationId) : Option Face :=
  if inWindow s.northFace.window i then some .north
  else if inWindow s.southFace.window i then some .south
  else none

/-- Every record of a window meets a test. -/
def State.windowAll (s : State) (w : Option Window) (p : Station → Bool) : Bool :=
  (windowStations w).all fun i => p (s.st i)

/-- The secured count: records of the window that are TENDED or LOCKED (R109). -/
def State.securedCount (s : State) (f : Face) : Nat :=
  (windowStations (s.face f).window).countP fun i =>
    decide ((s.st i).state = .tended) || decide ((s.st i).state = .locked)

/-- Another record of the same face window carries the tag (R4, R20). A record with face none has no window to search. -/
def State.tagTaken (s : State) (i : StationId) (tag : Byte) : Bool :=
  match s.faceOf i with
  | some f => (windowStations (s.face f).window).any fun j => decide (j ≠ i) && decide ((s.st j).fittingTag = some tag)
  | none => false

/-! ### Attention and link flags -/

/-- A station's condition made pending. -/
def Station.latch (c : Station) (k : StationCondition) : Station := { c with attn := c.attn.put k true }

/-- A station's condition withdrawn. -/
def Station.withdraw (c : Station) (k : StationCondition) : Station := { c with attn := c.attn.put k false }

/-- A face's condition latched (R166). -/
def State.latchFace (s : State) (f : Face) (k : FaceCondition) : State :=
  s.onFace f fun x => { x with attn := x.attn.put k true }

/-- A face with its link flags replaced; LINK_ERROR follows them (R167, R189). -/
def FaceState.withFlags (x : FaceState) (l : LinkFlags) : FaceState :=
  { x with link := { x.link with flags := l }, attn := x.attn.put .linkError l.anySet }

/-- A link status flag set (R189). -/
def State.raiseFlag (s : State) (f : Face) (k : LinkFlag) : State :=
  s.onFace f fun x => x.withFlags (x.link.flags.raise k)

/-! ### Reports of a line to its sequencer (R1, R17, R24) -/

/-- A sequencer takes reports while it is RUNNING or PAUSED (Table 6-3). -/
def Sequencer.active (q : Sequencer) : Bool :=
  match q.state with
  | .running | .paused _ => true
  | .idle | .done => false

/-- The sequencer of the record's face takes its reports. One that is IDLE or DONE acts on none (R137), and a record with
face none has no sequencer (R17): a report made then is not kept. DEDUCED, log 7. -/
def State.heard (s : State) (i : StationId) : Bool :=
  match s.faceOf i with
  | some f => (s.face f).sequencer.active
  | none => false

/-- One claim on one record, taken whole (R1): the station is changed, and the reports it makes are kept where they are
heard. -/
def State.onLine (s : State) (i : StationId) (g : Station → Station) : State :=
  let c := g (s.st i)
  s.setSt i (if s.heard i then c else { c with toSequencer := (s.st i).toSequencer })

/-! ### How a command is let in -/

/-- While RESET_N is low the part takes no request and no input event (R158). -/
def live (s : State) (k : State → State) : Out := .next (if s.inReset then s else k s)

/-- A claim or event of one station. -/
def stationEvent (i : StationId) (g : Station → Station) (s : State) : Out := live s fun s => s.onLine i g

/-- The port is RECEIVING and the bits it has taken since SEL_N fell begin the frame (R174, R175). -/
def ShorePort.takes (p : ShorePort) (frame : List Byte) : Bool :=
  decide (p.phase = .receiving) && p.received.isPrefixOf (frameBits frame)

/-- The port's answer to the request just taken, a frame of `bytes` bytes (R175, R176); `atOnce` tells that no wait byte
goes before it. -/
def State.shoreAnswer (s : State) (bytes : Nat) (atOnce : Bool) (a : Answer) : State :=
  { s with shore := { s.shore with
      phase := .answering, bitCount := 8 * bytes, received := [], answer := some a, atOnce := atOnce } }

/-- The bits of a request, handed on whole: the port keeps none. -/
def State.clearBits (s : State) : State := { s with shore := { s.shore with received := [] } }

/-- The whole host request `i`, which passes the port's checks: the owner takes it when the port has taken the bits of its
frame (R178); the bits of any other frame, and all bits in another phase, are not this request (R174, R175). -/
def hostRequest (i : Instr) (k : State → State × Answer) (s : State) : Out :=
  live s fun s =>
    match shoreFrameOf i with
    | some frame => if s.shore.takes frame then let r := k s.clearBits; r.1.shoreAnswer frame.length false r.2 else s
    | none => s

/-- A host request decided by one record alone. -/
def hostLine (i : Instr) (station : StationId) (g : Station → Station × Answer) (s : State) : Out :=
  hostRequest i (fun s => let r := g (s.st station); (s.onLine station fun _ => r.1, r.2)) s

end Sys2Proof.Machine
end

