-- ==== Sys2Proof/Machine/Drive.lean ====
section
/-! DEFINITION. The Drive and Clamp Controller channel by itself (chapter 4): slots, timers, outputs, STOP and FREE. What
the line controller does with a channel's reports is in Machine/Line.lean. -/

namespace Sys2Proof.Machine

/-- The average: the mean of the sample list, rounded down, or absent (R64). It is the tension view (R68). -/
def Station.average (c : Station) : Option Nat :=
  match c.monitor.samples with
  | [] => none
  | x :: xs => some ((x :: xs).sum / (x :: xs).length)

/-- STOP: both slots empty, the timers removed, the drive IDLE (R88). -/
def Drive.stop (d : Drive) : Drive :=
  { d with mode := .idle, cur := none, nxt := none, durTimer := none, stallTimer := none }

/-- FREE: both slots empty, the timers removed, the drive FREE (R88). -/
def Drive.freeDrum (d : Drive) : Drive :=
  { d with mode := .free, cur := none, nxt := none, durTimer := none, stallTimer := none }

/-- A segment becomes current: its outputs and its timers start (R84, R85, R94). -/
def Drive.start (d : Drive) (stallTime : Nat) (g : Segment) : Drive :=
  { d with
    mode := .running, dir := g.kind, cur := some g, durTimer := g.duration,
    stallTimer := if g.supervised then some stallTime else none }

/-- After an end by end condition or duration the waiting segment becomes current, or the drive goes IDLE (R87). -/
def Drive.promote (d : Drive) (stallTime : Nat) : Drive :=
  match d.nxt with
  | some g => { d with nxt := none }.start stallTime g
  | none => d.stop

/-! ### The encoder (R90) -/

/-- The place of a pair of levels in the cycle. The render direction runs low low, A high, both high, B high: DESIGN
CHOICE, log 15. -/
def encoderPhase (v : EncoderLevels) : Int :=
  match v.a, v.b with
  | false, false => 0
  | true, false => 1
  | true, true => 2
  | false, true => 3

/-- What the decoder makes of new levels: a quarter step of the cycle in one direction, or no step, where neither input
or both have changed. -/
def quarterStep (old new : EncoderLevels) : Int :=
  match (encoderPhase new - encoderPhase old) % 4 with
  | 1 => 1
  | 3 => -1
  | _ => 0

/-- The decoder takes new levels. Four quarter steps in one direction are a count. A change of both inputs at once gives
none, and the decoder goes on from the new levels with no cycle under way (DESIGN CHOICE that the quarters fall, log 15). -/
def Drive.decode (d : Drive) (v : EncoderLevels) : Drive × Option CountDir :=
  if d.encoder.a ≠ v.a ∧ d.encoder.b ≠ v.b then ({ d with encoder := v, quarters := 0 }, none)
  else
    let q := d.quarters + quarterStep d.encoder v
    if q = 4 then ({ d with encoder := v, quarters := 0 }, some .render)
    else if q = -4 then ({ d with encoder := v, quarters := 0 }, some .heave)
    else ({ d with encoder := v, quarters := q }, none)

/-! ### Segments -/

/-- Where a written segment goes (R85): nowhere while the clamp field is not OPEN; else the current slot in IDLE or FREE
and the next slot in RUNNING. -/
def Drive.place (d : Drive) (stallTime : Nat) (g : Segment) : Drive :=
  if d.field = .opened then
    match d.mode with
    | .running => { d with nxt := some g }
    | .idle | .free => d.start stallTime g
  else d

/-- A channel's test of an end condition; one whose quantity is absent is not met (R86). -/
def Station.met (c : Station) : EndCondition → Bool
  | .never => false
  | .tensionGe v => c.average.any fun a => decide (v ≤ a)
  | .tensionLe v => c.average.any fun a => decide (a ≤ v)
  | .payoutGe v => c.drive.payout.any fun p => decide (v ≤ p)
  | .payoutLe v => c.drive.payout.any fun p => decide (p ≤ v)
  | .homeClosed => c.drive.homeClosed

/-- The condition is one on the tension view. -/
def EndCondition.onTension : EndCondition → Bool
  | .tensionGe _ | .tensionLe _ => true
  | .never | .payoutGe _ | .payoutLe _ | .homeClosed => false

/-- The condition is one on the payout. -/
def EndCondition.onPayout : EndCondition → Bool
  | .payoutGe _ | .payoutLe _ => true
  | .never | .tensionGe _ | .tensionLe _ | .homeClosed => false

/-! ### Outputs at the pins (R84, R96, Table 12-7) -/

/-- The PWM duty of a station, in percent. -/
def Station.pwmDuty (c : Station) : Nat :=
  match c.drive.mode, c.drive.cur with
  | .running, some g => g.duty
  | _, _ => 0

/-- The brake release output: on in RUNNING and FREE. -/
def Station.brakeReleased (c : Station) : Bool :=
  match c.drive.mode with
  | .running | .free => true
  | .idle => false

/-- The direction output: at the render level, else at the heave level. -/
def Station.dirRender (c : Station) : Bool := decide (c.drive.dir = .render)

/-- The clamp close drive and the clamp open drive. -/
def Station.clampCloseDrive (c : Station) : Bool := decide (c.drive.command = some .closed)
def Station.clampOpenDrive (c : Station) : Bool := decide (c.drive.command = some .opened)

/-! ### The clamp (R96) -/

/-- The field at rest at a position. -/
def ClampPosition.field : ClampPosition → ClampField
  | .opened => .opened
  | .closed => .closed

/-- The field travelling toward a position. -/
def ClampPosition.travel : ClampPosition → ClampField
  | .opened => .opening
  | .closed => .closing

/-- The switch reading that confirms a position. -/
def ClampPosition.reading : ClampPosition → SwitchReading
  | .opened => .openOnly
  | .closed => .closedOnly

/-- The field that a reading gives while no deadline runs (R100). -/
def fieldOfReading : SwitchReading → ClampField
  | .openOnly => .opened
  | .closedOnly => .closed
  | .neither | .both => .unknown

/-- The field is OPENING or CLOSING. -/
def ClampField.travelling : ClampField → Bool
  | .opening | .closing => true
  | .opened | .closed | .unknown => false

/-- The channel's part of a clamp order (R96, R99): the command, a CLOSE's STOP, and a travel where one is needed. -/
def Drive.order (d : Drive) (limit : Nat) (p : ClampPosition) : Drive :=
  let d := { d with command := some p }
  let d := match p with
    | .closed => d.stop
    | .opened => d
  if d.field = p.field ∨ d.field = p.travel then d
  else { d with field := p.travel, deadline := some limit }

/-- The clamp is travelling to the position its switches already show (R96, R97). -/
def Drive.confirms (d : Drive) : Option ClampPosition :=
  match d.command with
  | some p => if d.field = p.travel ∧ d.reading = p.reading then some p else none
  | none => none

/-- The field takes the confirmed position and the deadline is removed (R97). -/
def Drive.confirmed (d : Drive) (p : ClampPosition) : Drive := { d with field := p.field, deadline := none }

end Sys2Proof.Machine
end

