-- ==== Sys2Proof/Machine/Line.lean ====
section
/-! DEFINITION. The line controller: the one change of state (R24), the entries into each state, and what the line
controller does with each report of its drive channel (chapters 2, 4 and 8). Entering FAULT is `Station.enterFault`. -/

namespace Sys2Proof.Machine

/-! ### Which comparisons a state has (Table 3-3) -/

def LineState.bandCompared : LineState → Bool
  | .tended | .locked => true
  | _ => false

def LineState.lockProtected : LineState → Bool
  | .locking | .locked => true
  | _ => false

/-- The states that a failed sensor sends to FAULT (Table 3-4). -/
def LineState.needsSensor : LineState → Bool
  | .heave | .tended | .locking | .locked | .easing => true
  | _ => false

/-- A count kept across a change of state when its comparison applies in both states, else 0 (R67). -/
def carryCount (old new : Bool) (n : Nat) : Nat := if old && new then n else 0

/-- The channel's counts at a change of the line's state (R67, R53). Band dwells and an auto-clear that were reached
and not yet taken fall with their comparison. -/
def Monitor.changed (m : Monitor) (old new : LineState) : Monitor :=
  let band := old.bandCompared && new.bandCompared
  let lock := old.lockProtected && new.lockProtected
  { m with
    below := carryCount old.bandCompared new.bandCompared m.below
    above := carryCount old.bandCompared new.bandCompared m.above
    parted := carryCount old.bandCompared new.bandCompared m.parted
    partedGiven := m.partedGiven && band
    trip := carryCount old.lockProtected new.lockProtected m.trip
    tripGiven := m.tripGiven && lock
    clearDwell := 0
    fresh := true
    belowDue := m.belowDue && band
    aboveDue := m.aboveDue && band
    clearDue := false }

/-- The level conditions at a change of the line's state (R67). -/
def StationAttn.changed (a : StationAttn) (old new : LineState) : StationAttn :=
  { a with
    belowBand := a.belowBand && (old.bandCompared && new.bandCompared)
    aboveBand := a.aboveBand && (old.bandCompared && new.bandCompared)
    lockAlarm := a.lockAlarm && (old.lockProtected && new.lockProtected) }

/-- The change of a line's state (R24): FREE into SLACK and STOP into any other state; the optional fields that the new
state does not carry are removed (Table 1-2); the new state is reported to the sequencer. The clamp order and the
segments of a change are given by the entry that makes it. -/
def Station.change (c : Station) (new : LineState) : Station :=
  { c with
    state := new
    drive := if new = .slack then c.drive.freeDrum else c.drive.stop
    monitor := c.monitor.changed c.state new
    attn := c.attn.changed c.state new
    fault := none
    clearRemembered := if new = .slack then some false else none
    easingPhase := none
    easeTimer := none
    creepSpent := none
    toSequencer := c.toSequencer ++ [.entered new] }

/-! ### Entries that write no segment -/

/-- Entry into FAULT (R149): no clamp order; the cause, and as previous state the state left; FAULT latched. -/
def Station.enterFault (c : Station) (cause : FaultCause) : Station :=
  ({ c.change .fault with fault := some ⟨cause, c.state⟩ }).latch .fault

/-- Retirement: to STOWED without vessel tag, fitting tag and band (R8, R161). -/
def Station.enterStowed (c : Station) : Station :=
  { c.change .stowed with vesselTag := none, fittingTag := none, band := none }

/-- A clamp timeout in FAULT: the cause becomes CLAMP, the previous state is kept, FAULT is latched again (R150). -/
def Station.furtherFault (c : Station) : Station :=
  ({ c with fault := c.fault.map fun (i : FaultInfo) => { i with cause := .clamp } }).latch .fault

/-! ### What the line controller does with a segment end and with "home closed" (R87, R93, R95) -/

/-- The causes of a segment end (R87). -/
inductive EndCause where
  | endCondition | duration | stall | homeLimit
  deriving DecidableEq, Repr

/-- "Home closed", and an end by home limit: HEAVE goes to FAULT NO_LOAD (R34), REWIND to STOWED (R55), any other line
stays (R93). -/
def Station.takeHomeClosed (c : Station) : Station :=
  match c.state with
  | .heave => c.enterFault .noLoad
  | .rewind => c.enterStowed.latch .stateReached
  | _ => c

/-- A segment end by its end condition: the payout target (R27), the second take-up's end (R33), the release (R47) and
the rewind (R55). The first take-up segment is the supervised one; its end has no effect (R32). -/
def Station.takeConditionEnd (c : Station) (ended : Segment) : Station :=
  match c.state with
  | .payout => c.latch .stateReached
  | .heave => if ended.supervised then c else (c.change .tended).latch .stateReached
  | .easing => (c.change .slack).latch .stateReached
  | .rewind => c.enterStowed.latch .stateReached
  | _ => c

/-- A stall: PAYOUT, HEAVE and REWIND go to FAULT STALL (R95). -/
def Station.takeStall (c : Station) : Station :=
  match c.state with
  | .payout | .heave | .rewind => c.enterFault .stall
  | _ => c

/-- The current segment ends by a cause: the channel promotes or empties, and the line controller takes the report. -/
def Station.endSegment (c : Station) (cause : EndCause) : Station :=
  match c.drive.cur with
  | none => c
  | some g =>
    match cause with
    | .endCondition => ({ c with drive := c.drive.promote c.settings.stallTime }).takeConditionEnd g
    | .duration => { c with drive := c.drive.promote c.settings.stallTime }
    | .stall => ({ c with drive := c.drive.stop }).takeStall
    | .homeLimit => ({ c with drive := c.drive.stop }).takeHomeClosed

/-- The test of the current segment, and of those that become current by its end (R86, R93). A HEAVE segment current
with the home status CLOSED ends first by that (DEDUCED, log 21), and "home closed" is reported after its end. The
number bounds the ends in a row: a channel holds two segments. -/
def Station.runEnds : Nat → Station → Station
  | 0, c => c
  | n + 1, c =>
    match c.drive.cur with
    | none => c
    | some g =>
      if g.kind = .heave ∧ c.drive.homeClosed = true then
        runEnds n (c.endSegment (if g.endCondition = .homeClosed then .endCondition else .homeLimit)).takeHomeClosed
      else if c.met g.endCondition then runEnds n (c.endSegment .endCondition)
      else c

/-- The tests that follow when a segment becomes current or a quantity changes. -/
def Station.settleEnds (c : Station) : Station := c.runEnds 3

/-- The test of the current segment's condition when the quantity it names has changed (R86): a condition of the picked
kind that is met ends the segment, and the one that becomes current is tested. -/
def Station.testCurrent (c : Station) (kind : EndCondition → Bool) : Station :=
  match c.drive.cur with
  | none => c
  | some g => if kind g.endCondition && c.met g.endCondition then (c.endSegment .endCondition).settleEnds else c

/-- A segment written by the line controller (R85), with the test it meets on becoming current (R86). One that waits in
the next slot is not tested. -/
def Station.write (c : Station) (g : Segment) : Station :=
  let d := { c with drive := c.drive.place c.settings.stallTime g }
  if c.drive.mode = .running then d else d.settleEnds

/-! ### Segments (Table 4-3) -/

def Station.bandOr (c : Station) : Band := c.band.getD ⟨0, 0⟩

def Station.payoutSegment (c : Station) (target : Nat) : Segment :=
  ⟨.render, c.settings.payoutDuty, none, .payoutGe target, true⟩

def Station.firstTakeUp (c : Station) : Segment :=
  ⟨.heave, c.settings.heaveDuty, none, .tensionGe c.bandOr.low, true⟩

def Station.secondTakeUp (c : Station) : Segment :=
  ⟨.heave, c.settings.heaveDuty, none, .tensionGe c.bandOr.midpoint, false⟩

def Station.correctionSegment (c : Station) : BandSide → Segment
  | .below => ⟨.heave, c.settings.tendDuty, some c.settings.tendTime, .tensionGe c.bandOr.midpoint, false⟩
  | .above => ⟨.render, c.settings.tendDuty, some c.settings.tendTime, .tensionLe c.bandOr.midpoint, false⟩

/-- Tension below the release threshold, written as tension ≤ threshold − 0.1 kN (R45). -/
def Station.easeSegment (c : Station) : Segment :=
  ⟨.render, c.settings.easeDuty, none, .tensionLe (c.settings.releaseThreshold - 1), false⟩

def Station.rewindSegment (c : Station) : Segment := ⟨.heave, c.settings.rewindDuty, none, .homeClosed, true⟩

def Station.creepSegment (c : Station) : Segment := ⟨.heave, c.settings.creepDuty, none, .homeClosed, true⟩

/-! ### Entries that write segments -/

/-- The arrival of the payout at 0.00 m with the home switch open: HEAVE goes to FAULT NO_LOAD (R34); REWIND orders STOP
and creeps until the overrun has risen by the home margin, or goes to FAULT HOME where the margin is 0.00 m (R56). -/
def Station.takeZero (c : Station) : Station :=
  match c.state with
  | .heave => c.enterFault .noLoad
  | .rewind =>
    if c.settings.homeMargin = 0 then c.enterFault .home
    else
      ({ c with drive := c.drive.stop, creepSpent := some (c.drive.overrun + c.settings.homeMargin) }).write
        c.creepSegment
  | _ => c

/-- The payout stands at 0.00 m referenced with the home switch open (R34, R56). -/
def Drive.atZeroOpen (d : Drive) : Bool := decide (d.payout = some 0) && !d.homeClosed

/-- A payout already at zero when the line enters HEAVE or REWIND is the arrival at that entry (R34, R56). -/
def Station.zeroAtEntry (c : Station) : Station := if c.drive.atZeroOpen then c.takeZero else c

/-- STOWED to PAYOUT with a vessel tag and the default band as it stands (R26). -/
def Station.enterPayout (c : Station) (tag : Half) (target : Nat) : Station :=
  let c := { c.change .payout with vesselTag := some tag, band := some ⟨c.settings.bandLow, c.settings.bandHigh⟩ }
  c.write (c.payoutSegment target)

/-- PAYOUT to HEAVE with the two take-up segments (R32). Both are placed before the first is tested; a payout already at
zero is the event of R34 at the entry itself, before any segment end is reported. DEDUCED, log 21. -/
def Station.enterHeave (c : Station) : Station :=
  let c := c.change .heave
  let d := (c.drive.place c.settings.stallTime c.firstTakeUp).place c.settings.stallTime c.secondTakeUp
  ({ c with drive := d }).zeroAtEntry.settleEnds

/-- The rewind of a line whose state is REWIND and whose clamp order, if any, is given (R54, R56). -/
def Station.startRewind (c : Station) : Station := (c.write c.rewindSegment).zeroAtEntry

/-- Into REWIND from SLACK or PAYOUT (R54). -/
def Station.enterRewind (c : Station) : Station := (c.change .rewind).startRewind

/-- EASING moves to its RENDERING phase and the render segment is written (R45, R46). -/
def Station.startRendering (c : Station) : Station :=
  ({ c with easingPhase := some .rendering }).write c.easeSegment

/-- A SLACK line is taken as cleared (R52, R53): REWIND with the clamp OPEN, else the clear is remembered. -/
def Station.takeClear (c : Station) : Station :=
  if c.drive.field = .opened then c.enterRewind else { c with clearRemembered := some true }

/-! ### Clamp orders and clamp reports (R96 to R100) -/

/-- "Clamp confirm" of a position, by the line state (R97). -/
def Station.takeConfirm (c : Station) (p : ClampPosition) : Station :=
  match c.state, p with
  | .locking, .closed => (c.change .locked).latch .stateReached
  | .easing, .opened => if c.easingPhase = some .opening then c.startRendering else c
  | .slack, .opened => if c.clearRemembered = some true then c.enterRewind else c
  | _, _ => c

/-- A clamp that stands where it is ordered while it is travelling confirms (R97). -/
def Station.confirmIfThere (c : Station) : Station :=
  match c.drive.confirms with
  | some p => ({ c with drive := c.drive.confirmed p }).takeConfirm p
  | none => c

/-- A clamp order of the line controller (R96). -/
def Station.orderClamp (c : Station) (p : ClampPosition) : Station :=
  ({ c with drive := c.drive.order c.settings.travelLimit p }).confirmIfThere

/-- "Clamp timeout" (R98): LOCKING, EASING, TENDED and SLACK go to FAULT CLAMP; in FAULT the cause is replaced. -/
def Station.takeTimeout (c : Station) : Station :=
  match c.state with
  | .locking | .easing | .tended | .slack => c.enterFault .clamp
  | .fault => c.furtherFault
  | _ => c

/-- "Clamp change" whose field has left OPEN (R100). -/
def Station.takeLeftOpen (c : Station) : Station :=
  match c.state with
  | .payout | .heave | .tended | .slack | .rewind => c.enterFault .clamp
  | .easing => if c.easingPhase = some .rendering then c.enterFault .clamp else c
  | _ => c

/-- The filtered switch reading changes. In travel only the commanded position counts (R97); at rest the field follows the
reading, a running drive stops when the field leaves OPEN, and the change is reported (R100). R100 speaks of a change alone:
that an event which names the reading already held sets the field by it too, out of UNKNOWN after a timeout, is a DESIGN
CHOICE, log 23. -/
def Station.readSwitches (c : Station) (r : SwitchReading) : Station :=
  let was := c.drive.field
  if was.travelling then ({ c with drive := { c.drive with reading := r } }).confirmIfThere
  else
    let now := fieldOfReading r
    let d : Drive := { c.drive with reading := r, field := now }
    if was = .opened ∧ now ≠ .opened then
      ({ c with drive := if d.mode = DriveMode.running then d.stop else d }).takeLeftOpen
    else { c with drive := d }

/-! ### Entries that order the clamp -/

/-- TENDED to LOCKING: the clamp is ordered CLOSE (R38). -/
def Station.enterLocking (c : Station) : Station := (c.change .locking).orderClamp .closed

/-- Into TENDED with the clamp ordered OPEN: UNLOCK (R40), a dropped lock (R41), CLEAR_FAULT (R153), ADOPT (R163). -/
def Station.enterTendedOpening (c : Station) : Station := (c.change .tended).orderClamp .opened

/-- Into LOCKED with the clamp ordered CLOSE: CLEAR_FAULT (R154), ADOPT (R162). -/
def Station.enterLockedClosing (c : Station) : Station := (c.change .locked).orderClamp .closed

/-- Into SLACK with the clamp ordered OPEN: release claim (R144), CLEAR_FAULT (R155), ADOPT (R164). -/
def Station.enterSlackOpening (c : Station) : Station := (c.change .slack).orderClamp .opened

/-- EASING back to TENDED; no clamp order (R15, R49). -/
def Station.returnToTended (c : Station) : Station := c.change .tended

/-- TENDED or LOCKED to EASING (R45): the ease limit timer, and the phase by the clamp field as it stands. -/
def Station.enterEasing (c : Station) : Station :=
  let field := c.drive.field
  let c := { c.change .easing with easeTimer := some c.settings.easeLimit }
  match field with
  | .opened => ({ c with easingPhase := some .rendering }.orderClamp .opened).startRendering
  | .opening => { c with easingPhase := some .opening }
  | .closed | .closing | .unknown => { c with easingPhase := some .opening }.orderClamp .opened

/-- FAULT to REWIND on CLEAR_FAULT: the clamp is ordered OPEN, then the rewind (R156). -/
def Station.enterRewindOpening (c : Station) : Station := ((c.change .rewind).orderClamp .opened).startRewind

/-- The start claim's condition: TENDED or LOCKED with an empty hold stack (R45). -/
def Station.startable (c : Station) : Bool :=
  (decide (c.state = .tended) || decide (c.state = .locked)) && c.holds.isEmpty

/-- The cancel claim's condition: PAYOUT, no fitting tag, no hold (R29). -/
def Station.cancellable (c : Station) : Bool :=
  decide (c.state = .payout) && c.fittingTag.isNone && c.holds.isEmpty

end Sys2Proof.Machine
end

