-- ==== Sys2Proof/Machine/TensionMonitor.lean ====
section
/-! DEFINITION. The Tension Monitor channel (chapter 3): forming a sample, the list and the runs, the comparisons of one
sample, and what the line controller does with each report. -/

namespace Sys2Proof.Machine

/-! ### Forming a sample (R61 to R63) -/

/-- The mean period in 0.1 µs, rounded down, from the rising edges of a window; none for a silent window (R61). -/
def meanPeriod : List Nat → Option Nat
  | [] => none
  | [_] => none
  | first :: second :: rest =>
    some (((second :: rest).getLast (by simp) - first) / (second :: rest).length)

/-- The tension of a valid mean period in 0.1 kN: the frequency to 0.1 Hz, then (f − f0) × gain / 1000 (R63). -/
def tensionOf (f0 gain period : Nat) : Nat :=
  min Config.tensionMax ((100000000 / period - 10 * f0) * gain / 10000)

/-- The sample of a window: a tension, or none when the window is silent or its period is out of limits (R62). -/
def sampleOf (t : StationSettings) (edges : List Nat) : Option Nat :=
  match meanPeriod edges with
  | none => none
  | some p => if t.periodMin ≤ p ∧ p ≤ t.periodMax then some (tensionOf t.f0 t.gain p) else none

/-! ### The sample list, the runs and the status (R64 to R66) -/

/-- A list of at most four, the newest last. -/
def pushSample (xs : List Nat) (t : Nat) : List Nat :=
  if xs.length < Config.sampleDepth then xs ++ [t] else xs.tail ++ [t]

/-- One sample taken into the channel, with the report it gives. -/
def Monitor.absorb (m : Monitor) (limit : Nat) (sample : Option Nat) : Monitor :=
  match m.failed, sample with
  | false, some t => { m with samples := pushSample m.samples t, invalidRun := 0 }
  | false, none =>
    if limit ≤ m.invalidRun + 1 then
      { m with samples := [], failed := true, invalidRun := 0, kept := [], reports := m.reports ++ [.sensorFailed] }
    else { m with invalidRun := m.invalidRun + 1 }
  | true, some t =>
    if m.kept.length + 1 = Config.sampleDepth then
      { m with samples := m.kept ++ [t], failed := false, kept := [], reports := m.reports ++ [.sensorRecovered] }
    else { m with kept := m.kept ++ [t] }
  | true, none => { m with kept := [] }

/-- The repeated "sensor failed" of R70: the first sample under a state that needs the sensor, with the status FAILED
before and after it. -/
def Monitor.repeatFailure (m : Monitor) (before : Monitor) (state : LineState) : Monitor :=
  if before.failed && m.failed && before.fresh && state.needsSensor then
    { m with reports := m.reports ++ [.sensorFailed] }
  else m

/-! ### Comparisons (R68, R72 to R79, R53) -/

/-- A dwell count of one more sample for which the comparison holds, or 0 (saturating, Table 3-1). -/
def dwellCount (holds : Bool) (n : Nat) : Nat := if holds then min Config.countMax (n + 1) else 0

/-- Band compare at one sample: the counts (R72, R76), the dwells reached, and the conditions withdrawn in band (R73). That a
pending condition, or a dwell noted, stays out of band where the band dwell has been raised above the count since (R73, R81)
is a DESIGN CHOICE, log 25. -/
def Station.compareBand (c : Station) : Station :=
  if c.state.bandCompared then
    let m := c.monitor
    let below := if m.bandChanged then 0 else m.below
    let above := if m.bandChanged then 0 else m.above
    match c.average with
    | none => { c with monitor := { m with below := 0, above := 0 } }
    | some a =>
      let below := dwellCount (decide (a < c.bandOr.low)) below
      let above := dwellCount (decide (c.bandOr.high < a)) above
      if c.bandOr.low ≤ a ∧ a ≤ c.bandOr.high then
        (({ c with monitor := { m with below := 0, above := 0, belowDue := false, aboveDue := false } }).withdraw
          .belowBand).withdraw .aboveBand
      else
        { c with monitor := { m with
            below := below
            above := above
            belowDue := m.belowDue || (decide (c.settings.bandDwell ≤ below) && !c.attn.belowBand)
            aboveDue := m.aboveDue || (decide (c.settings.bandDwell ≤ above) && !c.attn.aboveBand) } }
  else c

/-- Parted-line detection at one sample (R77): the report at the first sample, since the count was last 0, at which it
stands at or above the parted dwell. -/
def Station.compareParted (c : Station) : Station :=
  if c.state.bandCompared then
    let m := c.monitor
    let n := dwellCount (c.average.any fun a => decide (a < c.settings.partedThreshold)) m.parted
    let given := m.partedGiven && decide (n ≠ 0)
    let now := decide (n ≠ 0) && decide (c.settings.partedDwell ≤ n) && !given
    { c with monitor := { m with
        parted := n
        partedGiven := given || now
        reports := if now then m.reports ++ [.parted] else m.reports } }
  else c

/-- Lock protection at one sample: LOCK_ALARM follows the average (R78); the trip count and its report (R79). -/
def Station.compareLock (c : Station) : Station :=
  if c.state.lockProtected then
    let m := c.monitor
    let n := dwellCount (c.average.any fun a => decide (c.settings.lockTrip ≤ a)) m.trip
    let given := m.tripGiven && decide (n ≠ 0)
    let now := decide (n ≠ 0) && decide (c.settings.tripDwell ≤ n) && !given
    { c with
      attn := c.attn.put .lockAlarm (c.average.any fun a => decide (c.settings.lockAlarm ≤ a))
      monitor := { m with
        trip := n
        tripGiven := given || now
        reports := if now then m.reports ++ [.lockTrip] else m.reports } }
  else c

/-- The clear dwell count of a SLACK line at one sample, and the auto-clear it reaches (R53). -/
def Station.compareClear (c : Station) : Station :=
  if c.state = .slack then
    let m := c.monitor
    let n := dwellCount (c.average.any fun a => decide (a < c.settings.slackThreshold)) m.clearDwell
    { c with monitor := { m with
        clearDwell := n
        clearDue := m.clearDue || (decide (n ≠ 0) && decide (c.settings.clearDwell ≤ n) && decide (c.settings.autoClear = 1)) } }
  else c

/-- A tending correction is asked for in TENDED with the clamp OPEN, for the side whose count stands at the dwell, and
that count is set to 0 (R74); not at a sample that gives the parted-line report (`partedNow`). -/
def Station.askCorrection (c : Station) (partedNow : Bool) : Station :=
  let m := c.monitor
  if c.state = .tended ∧ c.drive.field = .opened ∧ partedNow = false then
    if c.settings.bandDwell ≤ m.below ∧ m.below ≠ 0 then
      { c with monitor := { m with below := 0, reports := m.reports ++ [.correction .below] } }
    else if c.settings.bandDwell ≤ m.above ∧ m.above ≠ 0 then
      { c with monitor := { m with above := 0, reports := m.reports ++ [.correction .above] } }
    else c
  else c

/-- One sample (R68): formed, taken in, and compared under the state the record holds. The reports stand in the order
sensor, parted line, lock trip, correction. -/
def Station.takeSample (c : Station) (edges : List Nat) : Station :=
  let before := c.monitor
  let m := (before.absorb c.settings.invalidLimit (sampleOf c.settings edges)).repeatFailure before c.state
  let c := ({ c with monitor := { m with fresh := false } }).compareBand
  let c := { c with monitor := { c.monitor with bandChanged := false } }
  let n := c.monitor.reports.length
  let c := c.compareParted
  let partedNow := decide (n < c.monitor.reports.length)
  c.compareLock.compareClear.askCorrection partedNow

/-! ### The line controller's part (R69, R71, R75, R77, R41) -/

/-- "Sensor failed" (Table 3-4). -/
def Station.takeSensorFailed (c : Station) : Station :=
  if c.state.needsSensor then c.enterFault .sensor
  else { c with monitor := { c.monitor with clearDwell := 0 } }

/-- "Lock trip" by the state found and the hard lock setting (Table 2-4). -/
def Station.takeLockTrip (c : Station) : Station :=
  match c.state with
  | .locking => c.enterTendedOpening.latch .lockDropped
  | .locked => if c.settings.hardLock = 1 then c.enterFault .lockTrip else c.enterTendedOpening.latch .lockDropped
  | _ => c

/-- One report, decided by the state it finds (R1, R68). "Sensor recovered" leaves the line in its state (R71). -/
def Station.takeMonitorReport (c : Station) : MonitorReport → Station
  | .sensorFailed => c.takeSensorFailed
  | .sensorRecovered => c
  | .parted => if c.state.bandCompared then c.enterFault .parted else c
  | .lockTrip => c.takeLockTrip
  | .correction side => if c.state = .tended then c.write (c.correctionSegment side) else c

/-- The channel's reports taken in their order, up to and including the first one that `p` picks; `gone` of them are
taken and leave the channel. -/
def Station.takeReports (p : MonitorReport → Bool) : List MonitorReport → Station → Station
  | [], c => c
  | r :: rest, c =>
    let c := ({ c with monitor := { c.monitor with reports := rest } }).takeMonitorReport r
    if p r then c else takeReports p rest c

/-- The command that names a kind of report: nothing when none of that kind stands in the channel; else that report is
taken, after those before it. DEDUCED, log 6. -/
def Station.takeReport (c : Station) (p : MonitorReport → Bool) : Station :=
  if c.monitor.reports.any p then c.takeReports p c.monitor.reports else c

/-- A band dwell reached makes its condition pending (R73). -/
def Station.takeBandDwell (c : Station) : BandSide → Station
  | .below =>
    if c.monitor.belowDue then ({ c with monitor := { c.monitor with belowDue := false } }).latch .belowBand else c
  | .above =>
    if c.monitor.aboveDue then ({ c with monitor := { c.monitor with aboveDue := false } }).latch .aboveBand else c

/-- An auto-clear reached takes a SLACK line as cleared (R53). -/
def Station.takeAutoClear (c : Station) : Station :=
  if c.monitor.clearDue = true ∧ c.state = .slack then
    ({ c with monitor := { c.monitor with clearDue := false } }).takeClear
  else c

end Sys2Proof.Machine
end

