-- ==== Sys2Proof/Machine/Settings.lean ====
section
/-! DEFINITION. The settings items (Table 12-6) and the two settings requests' checks (R181, R80, R114, R182). -/

namespace Sys2Proof.Machine

/-- The station items, in the order of their numbers 0x01 to 0x1D. -/
inductive StationItem where
  | bandLow | bandHigh | payoutDuty | heaveDuty | easeDuty | rewindDuty | creepDuty | tendDuty | tendTime
  | releaseThreshold | slackThreshold | clearDwell | autoClear | easeLimit | homeMargin | hardLock | f0 | gain
  | periodMin | periodMax | invalidLimit | bandDwell | partedThreshold | partedDwell | lockAlarm | lockTrip
  | tripDwell | stallTime | travelLimit
  deriving DecidableEq, Repr

/-- The face items, in the order of their numbers 0x40 to 0x4A. -/
inductive FaceItem where
  | minimumLines | bandFloor | bandCeiling | linkUnit | carrierPeriod | carrierHigh | receivePolarity
  | transmitPolarity | startMin | startMax | answerErrors
  deriving DecidableEq, Repr

def StationItem.all : List StationItem :=
  [.bandLow, .bandHigh, .payoutDuty, .heaveDuty, .easeDuty, .rewindDuty, .creepDuty, .tendDuty, .tendTime,
    .releaseThreshold, .slackThreshold, .clearDwell, .autoClear, .easeLimit, .homeMargin, .hardLock, .f0, .gain,
    .periodMin, .periodMax, .invalidLimit, .bandDwell, .partedThreshold, .partedDwell, .lockAlarm, .lockTrip,
    .tripDwell, .stallTime, .travelLimit]

def FaceItem.all : List FaceItem :=
  [.minimumLines, .bandFloor, .bandCeiling, .linkUnit, .carrierPeriod, .carrierHigh, .receivePolarity,
    .transmitPolarity, .startMin, .startMax, .answerErrors]

/-- The item of a number: station items begin at 0x01, face items at 0x40. -/
def StationItem.ofByte (b : Byte) : Option StationItem :=
  if b.toNat = 0 then none else StationItem.all[b.toNat - 1]?

def FaceItem.ofByte (b : Byte) : Option FaceItem :=
  if b.toNat < 0x40 then none else FaceItem.all[b.toNat - 0x40]?

/-- The range of a station item in its unit. -/
def StationItem.range : StationItem → Nat × Nat
  | .bandLow => (1, 9950) | .bandHigh => (51, 10000)
  | .payoutDuty | .heaveDuty | .easeDuty | .rewindDuty | .creepDuty => (1, 100)
  | .tendDuty => (5, 100) | .tendTime => (2, 255) | .releaseThreshold => (10, 5000) | .slackThreshold => (1, 1000)
  | .clearDwell => (10, 2550) | .autoClear => (0, 1) | .easeLimit => (10, 600) | .homeMargin => (0, 500)
  | .hardLock => (0, 1) | .f0 => (500, 15000) | .gain => (1, 65535)
  | .periodMin | .periodMax => (400, 20000)
  | .invalidLimit => (2, 30) | .bandDwell => (1, 255)
  | .partedThreshold => (0, 10000) | .partedDwell => (1, 255)
  | .lockAlarm | .lockTrip => (0, 10000) | .tripDwell => (1, 255)
  | .stallTime | .travelLimit => (5, 100)

/-- The range of a face item in its unit. -/
def FaceItem.range : FaceItem → Nat × Nat
  | .minimumLines => (1, 16) | .bandFloor => (1, 9950) | .bandCeiling => (51, 10000) | .linkUnit => (200, 2000)
  | .carrierPeriod => (100, 1000) | .carrierHigh => (10, 99) | .receivePolarity | .transmitPolarity => (0, 1)
  | .startMin => (40, 64) | .startMax => (64, 96) | .answerErrors => (0, 1)

/-- A value lies in an item's range. -/
def inRange (r : Nat × Nat) (v : Nat) : Bool := decide (r.1 ≤ v) && decide (v ≤ r.2)

def StationSettings.get (t : StationSettings) : StationItem → Nat
  | .bandLow => t.bandLow | .bandHigh => t.bandHigh | .payoutDuty => t.payoutDuty | .heaveDuty => t.heaveDuty
  | .easeDuty => t.easeDuty | .rewindDuty => t.rewindDuty | .creepDuty => t.creepDuty | .tendDuty => t.tendDuty
  | .tendTime => t.tendTime | .releaseThreshold => t.releaseThreshold | .slackThreshold => t.slackThreshold
  | .clearDwell => t.clearDwell | .autoClear => t.autoClear | .easeLimit => t.easeLimit | .homeMargin => t.homeMargin
  | .hardLock => t.hardLock | .f0 => t.f0 | .gain => t.gain | .periodMin => t.periodMin | .periodMax => t.periodMax
  | .invalidLimit => t.invalidLimit | .bandDwell => t.bandDwell | .partedThreshold => t.partedThreshold
  | .partedDwell => t.partedDwell | .lockAlarm => t.lockAlarm | .lockTrip => t.lockTrip | .tripDwell => t.tripDwell
  | .stallTime => t.stallTime | .travelLimit => t.travelLimit

def StationSettings.put (t : StationSettings) (k : StationItem) (v : Nat) : StationSettings :=
  match k with
  | .bandLow => { t with bandLow := v } | .bandHigh => { t with bandHigh := v }
  | .payoutDuty => { t with payoutDuty := v } | .heaveDuty => { t with heaveDuty := v }
  | .easeDuty => { t with easeDuty := v } | .rewindDuty => { t with rewindDuty := v }
  | .creepDuty => { t with creepDuty := v } | .tendDuty => { t with tendDuty := v }
  | .tendTime => { t with tendTime := v } | .releaseThreshold => { t with releaseThreshold := v }
  | .slackThreshold => { t with slackThreshold := v } | .clearDwell => { t with clearDwell := v }
  | .autoClear => { t with autoClear := v } | .easeLimit => { t with easeLimit := v }
  | .homeMargin => { t with homeMargin := v } | .hardLock => { t with hardLock := v } | .f0 => { t with f0 := v }
  | .gain => { t with gain := v } | .periodMin => { t with periodMin := v } | .periodMax => { t with periodMax := v }
  | .invalidLimit => { t with invalidLimit := v } | .bandDwell => { t with bandDwell := v }
  | .partedThreshold => { t with partedThreshold := v } | .partedDwell => { t with partedDwell := v }
  | .lockAlarm => { t with lockAlarm := v } | .lockTrip => { t with lockTrip := v }
  | .tripDwell => { t with tripDwell := v } | .stallTime => { t with stallTime := v }
  | .travelLimit => { t with travelLimit := v }

def FaceSettings.get (t : FaceSettings) : FaceItem → Nat
  | .minimumLines => t.minimumLines | .bandFloor => t.bandFloor | .bandCeiling => t.bandCeiling
  | .linkUnit => t.linkUnit | .carrierPeriod => t.carrierPeriod | .carrierHigh => t.carrierHigh
  | .receivePolarity => t.receivePolarity | .transmitPolarity => t.transmitPolarity | .startMin => t.startMin
  | .startMax => t.startMax | .answerErrors => t.answerErrors

def FaceSettings.put (t : FaceSettings) (k : FaceItem) (v : Nat) : FaceSettings :=
  match k with
  | .minimumLines => { t with minimumLines := v } | .bandFloor => { t with bandFloor := v }
  | .bandCeiling => { t with bandCeiling := v } | .linkUnit => { t with linkUnit := v }
  | .carrierPeriod => { t with carrierPeriod := v } | .carrierHigh => { t with carrierHigh := v }
  | .receivePolarity => { t with receivePolarity := v } | .transmitPolarity => { t with transmitPolarity := v }
  | .startMin => { t with startMin := v } | .startMax => { t with startMax := v }
  | .answerErrors => { t with answerErrors := v }

/-- The calibration items (R80). -/
def StationItem.calibration : StationItem → Bool
  | .f0 | .gain | .periodMin | .periodMax => true
  | _ => false

/-- The link items (R182). -/
def FaceItem.ofLink : FaceItem → Bool
  | .minimumLines | .bandFloor | .bandCeiling => false
  | _ => true

/-- The pair of a station item stays in order: the default band (R181), the period limits (R80). -/
def StationSettings.pairOk (t : StationSettings) : StationItem → Bool
  | .bandLow | .bandHigh => decide (0 < t.bandLow) && decide (t.bandLow + Config.bandGap ≤ t.bandHigh)
  | .periodMin | .periodMax => decide (t.periodMin ≤ t.periodMax)
  | _ => true

/-- The pair of a face item stays in order: the ship band floor and ceiling (R114). -/
def FaceSettings.pairOk (t : FaceSettings) : FaceItem → Bool
  | .bandFloor | .bandCeiling => decide (t.bandFloor + Config.bandGap ≤ t.bandCeiling)
  | _ => true

/-- The checks of a station item's new value after the item is known (R181): range, state, pair. -/
def Station.settingRefusal (c : Station) (k : StationItem) (v : Nat) : Option Status :=
  if inRange k.range v = false then some .badValue
  else if k.calibration ∧ ¬(c.state = .stowed ∨ c.state = .halted) then some .wrongState
  else if (c.settings.put k v).pairOk k = false then some .badValue
  else none

/-- The same for a face item. -/
def FaceState.settingRefusal (x : FaceState) (k : FaceItem) (v : Nat) : Option Status :=
  if inRange k.range v = false then some .badValue
  else if k.ofLink ∧ x.grant ≠ .vacant then some .wrongState
  else if (x.settings.put k v).pairOk k = false then some .badValue
  else none

/-- An accepted station value. A calibration that changes empties the sample list, and discards the samples kept aside
while the status is FAILED (R80); a value equal to the one in force changes nothing (R181). -/
def Station.putSetting (c : Station) (k : StationItem) (v : Nat) : Station :=
  if c.settings.get k = v then c
  else
    let c := { c with settings := c.settings.put k v }
    if k.calibration then
      { c with monitor := { c.monitor with samples := [], kept := if c.monitor.failed then [] else c.monitor.kept } }
    else c

/-- An accepted face value. The receiver in IDLE may be measuring a mark that began under the value replaced (R182); a value
equal to the one in force changes nothing (R181). -/
def FaceState.putSetting (x : FaceState) (k : FaceItem) (v : Nat) : FaceState :=
  if x.settings.get k = v then x
  else
    { x with
      settings := x.settings.put k v
      link := if x.link.rx = .idle then { x.link with earlier := x.settings :: x.link.earlier } else x.link }

/-- The payload of a settings answer: scope, item, value (Table 12-2). -/
def settingPayload (scope item : Byte) (v : Nat) : List Byte := scope :: item :: natBytes v

end Sys2Proof.Machine
end

