-- ==== Sys2Proof/Machine/Views.lean ====
section
/-! DEFINITION. The answer payloads that show the part (Table 12-5): record view, window list entries, face view, plan
view, summary. -/

namespace Sys2Proof.Machine

/-- An optional number as a two-byte field, 0 when absent (R190). -/
def optBytes (x : Option Nat) : List Byte := natBytes (x.getD 0)

/-- The plan entry that lists a station, with its index (R7). -/
def Sequencer.entryOf (q : Sequencer) (i : StationId) : Option (Nat × PlanEntry) :=
  (q.entries.findIdx? fun e => decide (e.station = i)).bind fun k => q.entries[k]?.map fun e => (k, e)

/-- The plan entry field of a record: shown while the record is out of STOWED and the plan of its face lists it (R7). -/
def State.planEntry (s : State) (i : StationId) : Option (Nat × PlanEntry) :=
  if (s.st i).state = .stowed then none
  else (s.faceOf i).bind fun f => (s.face f).sequencer.entryOf i

/-- Byte 15, bit 6: clear remembered yes in SLACK, or RENDERING in EASING. -/
def Station.phaseBit (c : Station) : Bool :=
  (decide (c.state = .slack) && decide (c.clearRemembered = some true)) ||
    (decide (c.state = .easing) && decide (c.easingPhase = some .rendering))

/-- Byte 16: hold count, top holder, under holder. -/
def Station.holdByte (c : Station) : Byte :=
  natByte c.holds.length ||| bitAt (c.holds[0]?.any fun h => decide (h.holder = .ship)) 4 |||
    bitAt (c.holds[1]?.any fun h => decide (h.holder = .ship)) 5

/-- The 24-byte record view (R22). -/
def State.recordView (s : State) (i : StationId) : List Byte :=
  let c := s.st i
  let entry := s.planEntry i
  let presence :=
    bitAt c.vesselTag.isSome 0 ||| bitAt c.fittingTag.isSome 1 ||| bitAt c.band.isSome 2 ||| bitAt c.drive.payout.isSome 3 |||
      bitAt c.average.isSome 4 ||| bitAt c.fault.isSome 5 ||| bitAt entry.isSome 6
  [natByte i.val, faceByte (s.faceOf i), c.state.code, presence] ++ halfBytes (c.vesselTag.getD 0) ++
    [c.fittingTag.getD 0] ++ optBytes (c.band.map Band.low) ++ optBytes (c.band.map Band.high) ++
    optBytes c.drive.payout ++ optBytes c.average ++
    [c.drive.field.code ||| bitAt c.phaseBit 6 ||| bitAt c.monitor.failed 7, c.holdByte,
      (c.holds[0]?.map Hold.reason).getD 0, (c.holds[1]?.map Hold.reason).getD 0,
      (c.fault.map fun x => x.cause.code).getD 0, (c.fault.map fun x => x.previous.code).getD 0,
      (entry.map fun e => natByte e.1).getD 0, (entry.map fun e => e.2.status.code).getD 0, 0]

/-- The band status of a window list entry (Table 1-7): UNKNOWN 0, BELOW 1, IN 2, ABOVE 3. -/
def Station.bandStatus (c : Station) : Nat :=
  match c.average, c.band with
  | some a, some b => if a < b.low then 1 else if b.high < a then 3 else 2
  | _, _ => 0

/-- A shore window list entry: station; state; fitting tag; hold count and band status. -/
def State.shoreEntry (s : State) (i : StationId) : List Byte :=
  let c := s.st i
  [natByte i.val, c.state.code, c.fittingTag.getD 0, natByte (c.holds.length + 16 * c.bandStatus)]

/-- A ship window list entry: state, hold count and band status in one byte; fitting tag. -/
def State.shipEntry (s : State) (i : StationId) : List Byte :=
  let c := s.st i
  [natByte (c.state.code.toNat + 16 * c.holds.length + 64 * c.bandStatus), c.fittingTag.getD 0]

/-- The window list of a face as the host sees it (R23). -/
def State.shoreList (s : State) (f : Face) : List Byte := (windowStations (s.face f).window).flatMap s.shoreEntry

/-- The window list of a face as its ship sees it (R23). -/
def State.shipList (s : State) (f : Face) : List Byte := (windowStations (s.face f).window).flatMap s.shipEntry

/-- The face view of QUERY_FACE (R113). -/
def State.faceView (s : State) (f : Face) : List Byte :=
  let x := s.face f
  let bounds : List Byte := match x.window with
    | some w => [natByte w.base.val, natByte w.limit.val, natByte w.size]
    | none => [0xFF, 0xFF, 0]
  [faceCode f, x.grant.code] ++ halfBytes x.tag ++ bounds ++
    [natByte (s.securedCount f), natByte x.settings.minimumLines] ++ natBytes x.settings.bandFloor ++
    natBytes x.settings.bandCeiling ++ [bitAt x.erActive 0]

/-- One entry of the plan view: station; status, step timer running, step late. -/
def PlanEntry.view (e : PlanEntry) : List Byte :=
  [natByte e.station.val, e.status.code ||| bitAt e.timer.isSome 4 ||| bitAt e.late 5]

/-- The plan view of QUERY_PLAN (R122). -/
def Sequencer.view (q : Sequencer) : List Byte :=
  [q.state.code, q.state.reasonCode, natByte q.width] ++ natBytes q.timeout ++
    [natByte q.cursor, natByte q.entries.length] ++ q.entries.flatMap PlanEntry.view

/-- The class mask byte: bit 0 URGENT masked, bit 1 ROUTINE masked. -/
def State.maskByte (s : State) : Byte := bitAt s.urgentMasked 0 ||| bitAt s.routineMasked 1

/-- Eight stations of a set as one byte, station `8 k + j` at bit j. -/
def setByte (p : StationId → Bool) (k : Nat) : Byte :=
  natByte ((allStations.filter fun i => decide (i.val / 8 = k) && p i).foldl (fun n i => n + 2 ^ (i.val % 8)) 0)

/-- The summary of the attention sets and the mask (R171). -/
def State.summaryView (s : State) : List Byte :=
  let urgent := fun i => (s.st i).attn.hasClass .urgent
  let routine := fun i => (s.st i).attn.hasClass .routine
  [setByte urgent 0, setByte urgent 1, setByte urgent 2, setByte routine 0, setByte routine 1, setByte routine 2,
    bitAt (s.northFace.attn.hasClass .urgent) 0 ||| bitAt (s.northFace.attn.hasClass .routine) 1 |||
      bitAt (s.southFace.attn.hasClass .urgent) 2 ||| bitAt (s.southFace.attn.hasClass .routine) 3,
    s.maskByte]

/-! ### Answer frames and what SDO puts out (R176, Table 12-1) -/

/-- The bytes of a shore answer: marker, status, length, payload, check. -/
def Answer.shoreFrame (a : Answer) : List Byte :=
  let body := Config.answerMarker :: a.status.code :: natByte a.payload.length :: a.payload
  body ++ [checkByte body]

/-- The bytes of a ship answer: tag as received, status, length, payload, check (R187). -/
def TxFrame.bytes (t : TxFrame) : List Byte :=
  let body := halfBytes t.tag ++ t.answer.status.code :: natByte t.answer.payload.length :: t.answer.payload
  body ++ [checkByte body]

/-- The number of wait bytes before the answer, where forming it takes the time of `slow` bytes: none before an answer formed
at once, and never above 16 (R176, R177, R180). -/
def ShorePort.waitBytes (p : ShorePort) (slow : Nat) : Nat := if p.atOnce then 0 else min slow 16

/-- The phase at byte `k` after the end of the request: WAITING at the wait bytes, ANSWERING from the marker on (Figure
10-1). The model's own phase is ANSWERING from the end of the request on (log 11). -/
def ShorePort.phaseAt (p : ShorePort) (slow k : Nat) : ShorePhase :=
  if p.phase = .answering ∧ k < p.waitBytes slow then .waiting else p.phase

/-- Byte `k` that SDO returns, counted from the end of the request, or from the falling edge of SEL_N while RECEIVING (R176,
Table 10-2): 0x00 while RECEIVING; then wait bytes, the answer frame, and 0x00 after it. -/
def ShorePort.sdoByte (p : ShorePort) (slow k : Nat) : Byte :=
  match p.phaseAt slow k, p.answer with
  | .waiting, _ => Config.waitByte
  | .answering, some a => a.shoreFrame.getD (k - p.waitBytes slow) 0
  | _, _ => 0

/-- An output that may be high-impedance. -/
inductive TriState where
  | highZ
  | driven (high : Bool)
  deriving DecidableEq, Repr

/-- SDO at bit `j` of byte `k`, the most significant bit first: high-impedance in reset, while SEL_N is high, and in IDLE
(R158, R174, R179). -/
def State.sdo (s : State) (slow k j : Nat) : TriState :=
  if s.inReset ∨ s.shore.selLow = false ∨ s.shore.phase = .idle then .highZ
  else .driven ((s.shore.sdoByte slow k).getLsbD (7 - j))

end Sys2Proof.Machine
end

