-- ==== Sys2Proof/Machine/Attention.lean ====
section
/-! DEFINITION. Chapter 9 and CLEAR_LINK_STATUS: reading and acknowledging attention, the class mask. -/

namespace Sys2Proof.Machine

/-- SUMMARY (R171). -/
def execSummary (s : State) : Out := hostRequest .summary (fun s => (s, ⟨.ok, s.summaryView⟩)) s

/-- The answer of READ_ATTENTION and ACK_ATTENTION: scope, target, pending set. -/
def attentionAnswer (scope target : Byte) (bits : Nat) : Answer := ⟨.ok, [scope, target] ++ natBytes bits⟩

/-- READ_ATTENTION (R172): a scope other than STATION and FACE is refused. -/
def execReadAttention (target : Scoped) (s : State) : Out :=
  hostRequest (.readAttention target) (fun s =>
    match target with
    | .station i => (s, attentionAnswer 0 (natByte i.val) (s.st i).attn.bits)
    | .face f => (s, attentionAnswer 1 (faceCode f) (s.face f).attn.bits)
    | .device | .other _ _ => (s, refusal .badValue)) s

/-- ACK_ATTENTION (R173): the scope and the codes are checked before anything is cleared. -/
def execAckAttention (target : Scoped) (codes : List Byte) (s : State) : Out :=
  hostRequest (.ackAttention target codes) (fun s =>
    match target with
    | .station i =>
      match readCodes StationCondition.ofCode codes with
      | none => (s, refusal .badValue)
      | some named =>
        let a := (s.st i).attn.acknowledge named
        (s.setSt i { s.st i with attn := a }, attentionAnswer 0 (natByte i.val) a.bits)
    | .face f =>
      match readCodes FaceCondition.ofCode codes with
      | none => (s, refusal .badValue)
      | some named =>
        let a := (s.face f).attn.acknowledge named
        (s.onFace f fun x => { x with attn := a }, attentionAnswer 1 (faceCode f) a.bits)
    | .device | .other _ _ => (s, refusal .badValue)) s

/-- SET_CLASS_MASK (R170): both classes together; the unmarked bits are ignored (R190). -/
def execSetClassMask (mask : Byte) (s : State) : Out :=
  hostRequest (.setClassMask mask) (fun s =>
    let s := { s with urgentMasked := mask.getLsbD 0, routineMasked := mask.getLsbD 1 }
    (s, ⟨.ok, [s.maskByte]⟩)) s

/-- CLEAR_LINK_STATUS (R189): a set naming anything but the four flags is refused; the answer carries the flags left. -/
def execClearLinkStatus (face : Face) (flags : Byte) (s : State) : Out :=
  hostRequest (.clearLinkStatus face flags) (fun s =>
    if 16 ≤ flags.toNat then (s, refusal .badValue)
    else
      let left := (s.face face).link.flags.clear flags
      (s.onFace face fun x => x.withFlags left, ⟨.ok, [left.byte]⟩)) s

end Sys2Proof.Machine
end

