-- ==== Sys2Proof/Machine/Sequencer.lean ====
section
/-! DEFINITION. The Departure Sequencers (chapter 6): the walk, the claims they make on records, entry progress, pausing
and completion. Claims a sequencer is to make stand in its state and are made by steps of their own. -/

namespace Sys2Proof.Machine

/-! ### Entries -/

/-- In progress: EASING, RETURNED or SLACK (Table 6-2). -/
def EntryStatus.inProgress : EntryStatus → Bool
  | .easing | .returned | .slack => true
  | .waiting | .blocked | .done | .skipped | .failed => false

/-- Finished: DONE, SKIPPED or FAILED (Table 6-2). -/
def EntryStatus.finished : EntryStatus → Bool
  | .done | .skipped | .failed => true
  | .waiting | .blocked | .easing | .returned | .slack => false

/-- The number of entries in progress. -/
def Sequencer.inProgress (q : Sequencer) : Nat := q.entries.countP fun e => e.status.inProgress

/-- The entry of a station; no station is listed twice (R121). -/
def Sequencer.find (q : Sequencer) (i : StationId) : Option PlanEntry := q.entries.find? fun e => decide (e.station = i)

/-- The plan lists a station. -/
def Sequencer.lists (q : Sequencer) (i : StationId) : Bool := q.entries.any fun e => decide (e.station = i)

/-- The entry of a station changed. -/
def Sequencer.edit (q : Sequencer) (i : StationId) (g : PlanEntry → PlanEntry) : Sequencer :=
  { q with entries := q.entries.map fun e => if e.station = i then g e else e }

/-- The station of the entry at the cursor. -/
def Sequencer.cursorStation (q : Sequencer) : Option StationId := q.entries[q.cursor]?.map PlanEntry.station

/-- The walk's two conditions, and the state it runs in (R124). -/
def Sequencer.canLook (q : Sequencer) : Bool :=
  decide (q.state = .running) && decide (q.inProgress < q.width) && decide (q.cursor < q.entries.length)

/-- The walk tests its conditions and owes a look when they hold (R124). -/
def Sequencer.look (q : Sequencer) : Sequencer := { q with walkOwed := q.canLook }

/-- Complete: the cursor at the end and every entry finished (R131). -/
def Sequencer.complete (q : Sequencer) : Bool :=
  decide (q.cursor = q.entries.length) && q.entries.all fun e => e.status.finished

/-- Claims owed are dropped when the sequencer becomes DONE or IDLE or is paused by the host: it acts on nothing while IDLE
or DONE (R137), and looks at no entry and restarts none while PAUSED (R132). Log 9. -/
def Sequencer.dropOwed (q : Sequencer) : Sequencer := { q with walkOwed := false, startsOwed := [] }

/-- Every step timer removed. -/
def Sequencer.noTimers (q : Sequencer) : Sequencer :=
  { q with entries := q.entries.map fun e => { e with timer := none } }

/-! ### The sequencer within the part -/

/-- One face's sequencer. -/
def State.seq (s : State) (f : Face) : Sequencer := (s.face f).sequencer

/-- One face's sequencer changed. -/
def State.onSeq (s : State) (f : Face) (g : Sequencer → Sequencer) : State :=
  s.onFace f fun x => { x with sequencer := g x.sequencer }

/-- The reports of a face's lines fall when its sequencer stops acting on them (R137). DEDUCED, log 7. -/
def State.dropReports (s : State) (f : Face) : State :=
  s.mapStations (inWindow (s.face f).window) fun c => { c with toSequencer := [] }

/-- The test for completion, made while RUNNING (R131): the sequencer becomes DONE, a DEPARTING grant goes to CLEARED
(R111), and PLAN_DONE is latched. -/
def State.testComplete (s : State) (f : Face) : State :=
  let q := s.seq f
  if q.state = .running ∧ q.complete = true then
    let s := s.onFace f fun x =>
      { x with
        sequencer := { q with state := .done }.dropOwed
        grant := if x.grant = .departing then .cleared else x.grant }
    (s.latchFace f .planDone).dropReports f
  else s

/-- The sequencer pauses on a failure (R133): from RUNNING and from PAUSED(HOST) it latches PLAN_PAUSED. The walk stops;
start claims it sent before are still taken by their records (R134). DEDUCED, log 9. -/
def State.failPause (s : State) (f : Face) : State :=
  match (s.seq f).state with
  | .running | .paused .host =>
    (s.onSeq f fun q => { q with state := .paused .failed, walkOwed := false }).latchFace f .planPaused
  | .paused .failed | .idle | .done => s

/-- The walk goes on where its conditions hold. -/
def State.lookOn (s : State) (f : Face) : State := s.onSeq f Sequencer.look

/-! ### The walk claim (R125) -/

/-- The entry status from the record the walk claim found; the first row of Table 6-4 that matches. -/
def walkStatus (c : Station) : EntryStatus :=
  match c.state with
  | .fault | .halted => .failed
  | .stowed | .rewind => .skipped
  | .slack => .slack
  | _ =>
    if c.cancellable then .skipped
    else if c.holds ≠ [] then .blocked
    else if c.startable then .easing
    else .waiting

/-- What the walk claim does to the record it finds: the start claim, the cancel claim, or nothing. -/
def Station.takeWalk (c : Station) : Station :=
  if c.startable then c.enterEasing else if c.cancellable then c.enterRewind else c

/-- The cursor advances past every status but WAITING and BLOCKED. -/
def EntryStatus.advances : EntryStatus → Bool
  | .waiting | .blocked => false
  | _ => true

/-- The entry at the cursor after a walk claim: its status, and the step timer of a started entry (R130). -/
def Sequencer.walked (q : Sequencer) (i : StationId) (status : EntryStatus) : Sequencer :=
  let q := q.edit i fun e => { e with status := status, timer := if status.inProgress then some q.timeout else e.timer }
  { q with walkOwed := false, cursor := if status.advances then q.cursor + 1 else q.cursor }

/-- The look at the entry of station `i` at the cursor: the record takes the claim, the entry takes its status, and the
walk goes on or stops. The line's reports handed over before the claim ask for no more than this look, so the claim
overtakes them (log 7). -/
def State.lookAt (s : State) (f : Face) (i : StationId) : State :=
  let status := walkStatus (s.st i)
  let s := (s.onSeq f fun q => q.walked i status).onLine i fun c => { c with toSequencer := [] }.takeWalk
  let s := if status = .failed then s.failPause f else s
  let s := s.testComplete f
  if status.advances then s.lookOn f else s

/-- One walk claim, when one is owed and every start claim sent before it has been taken (R134); else nothing. -/
def State.walkOnce (s : State) (f : Face) : State :=
  let q := s.seq f
  if q.walkOwed && q.startsOwed.isEmpty then
    match q.cursorStation with
    | some i => if q.canLook then s.lookAt f i else s.onSeq f fun q => { q with walkOwed := false }
    | none => s.onSeq f fun q => { q with walkOwed := false }
  else s

/-! ### Start claims and return claims (R45, R49, R129, R136) -/

/-- The start claim on a record: TENDED or LOCKED with no hold goes to EASING; any other is left as it is (R45). -/
def Station.takeStart (c : Station) : Station := if c.startable then c.enterEasing else c

/-- The first start claim owed, when it is station `i`'s: claims are sent in their order (R134; DEDUCED, log 9). Started, a
RETURNED entry is EASING again; any other finding leaves it RETURNED (R129). A report of the line's FAULT handed over
before it fails the entry first; other reports handed over before it ask for no more than this claim (log 7). -/
def State.startOnce (s : State) (f : Face) (i : StationId) : State :=
  if (s.seq f).startsOwed.head? = some i then
    let s := s.onSeq f fun q => { q with startsOwed := q.startsOwed.tail }
    if ((s.seq f).find i).any (fun e => decide (e.status = .returned)) && (s.st i).startable &&
        decide (LineReport.entered .fault ∉ (s.st i).toSequencer) then
      (s.onSeq f fun q => q.edit i fun e => { e with status := .easing }).onLine i fun c =>
        { c with toSequencer := [] }.takeStart
    else s
  else s

/-- The return claim on a record: EASING goes to TENDED; any other is left as it is (R49). -/
def Station.takeReturn (c : Station) : Station := if c.state = .easing then c.returnToTended else c

/-- The entry status from the state a return claim finds or leaves (R136). -/
def returnStatus (found : LineState) (status : EntryStatus) : EntryStatus :=
  match found with
  | .tended | .locking | .locked => .returned
  | .slack => .slack
  | .rewind | .stowed => .done
  | .fault => .failed
  | .payout | .heave | .easing | .halted => status

/-- An entry that was EASING, with the status of a return claim; any other is frozen (R136). -/
def PlanEntry.returned (found : LineState) (e : PlanEntry) : PlanEntry :=
  if e.status = EntryStatus.easing then { e with status := returnStatus found e.status } else e

/-- One return claim of an abort (R136). -/
def State.returnOnce (s : State) (f : Face) (i : StationId) : State :=
  if i ∈ (s.seq f).returnsOwed then
    let s := s.onLine i Station.takeReturn
    s.onSeq f fun q =>
      { q with returnsOwed := q.returnsOwed.filter fun j => decide (j ≠ i) }.edit i (PlanEntry.returned (s.st i).state)
  else s

/-- The walk claims owed, one after another. -/
def State.walkMany : Nat → Face → State → State
  | 0, _, s => s
  | n + 1, f, s => if (s.seq f).walkOwed then walkMany n f (s.walkOnce f) else s

/-- The claims a sequencer owes are made before it takes its next control request: it takes one thing at a time, and the
orders of R132, R136 and R137 hold. DEDUCED, log 8. -/
def State.settleSeq (s : State) (f : Face) : State :=
  let s := (s.seq f).returnsOwed.foldl (fun s i => s.returnOnce f i) s
  let s := (s.seq f).startsOwed.foldl (fun s i => s.startOnce f i) s
  s.walkMany ((s.seq f).entries.length + 1) f

/-! ### Reports of a line (R126, R129, R133) -/

/-- A started entry FAILED: its timer removed, the width freed, the sequencer paused (Table 6-5). -/
def State.failEntry (s : State) (f : Face) (i : StationId) : State :=
  (s.onSeq f fun q => q.edit i fun e => { e with status := .failed, timer := none }).failPause f

/-- A start claim owed for a RETURNED entry, while RUNNING (R129). -/
def State.oweStart (s : State) (f : Face) (i : StationId) : State :=
  if (s.seq f).state = .running then s.onSeq f fun q => { q with startsOwed := q.startsOwed ++ [i] } else s

/-- A state report of line `i` taken by the sequencer of face `f` (Table 6-5, R124). -/
def State.takeEntered (s : State) (f : Face) (i : StationId) (entered : LineState) : State :=
  match (s.seq f).find i with
  | none => s
  | some e =>
    match e.status, entered with
    | .easing, .slack => s.onSeq f fun q => q.edit i fun e => { e with status := .slack }
    | .easing, .tended => s.onSeq f fun q => q.edit i fun e => { e with status := .returned }
    | .slack, .rewind =>
      ((s.onSeq f fun q => q.edit i fun e => { e with status := .done, timer := none }).testComplete f).lookOn f
    | .easing, .fault | .returned, .fault | .slack, .fault => s.failEntry f i
    | .returned, .tended | .returned, .locked => s.oweStart f i
    | .waiting, _ | .blocked, _ => if (s.seq f).cursorStation = some i then s.lookOn f else s
    | _, _ => s

/-- A "hold stack emptied" report of line `i`: a BLOCKED entry at the cursor is looked at, a RETURNED one restarted
(R17, R124, R129). -/
def State.takeEmptied (s : State) (f : Face) (i : StationId) : State :=
  match (s.seq f).find i with
  | none => s
  | some e =>
    match e.status with
    | .blocked => if (s.seq f).cursorStation = some i then s.lookOn f else s
    | .returned => s.oweStart f i
    | _ => s

/-- One report of line `i`, taken while the sequencer is RUNNING or PAUSED (R137). -/
def State.takeLineReport (s : State) (i : StationId) (r : LineReport) : State :=
  match s.faceOf i with
  | none => s
  | some f =>
    if (s.seq f).active then
      match r with
      | .entered st => s.takeEntered f i st
      | .holdsEmptied => s.takeEmptied f i
    else s

/-- A line's reports taken in their order, up to and including the first one that `p` picks. -/
def State.takeLineReports (i : StationId) (p : LineReport → Bool) : List LineReport → State → State
  | [], s => s
  | r :: rest, s =>
    let s := (s.setSt i { s.st i with toSequencer := rest }).takeLineReport i r
    if p r then s else takeLineReports i p rest s

/-- The command that names a kind of report: nothing when none of that kind stands for the line; else that report is
taken, after those before it. DEDUCED, log 6. -/
def State.takeReportOf (s : State) (i : StationId) (p : LineReport → Bool) : State :=
  if (s.st i).toSequencer.any p then takeLineReports i p (s.st i).toSequencer s else s

/-- The report is a state report. -/
def LineReport.isEntered : LineReport → Bool
  | .entered _ => true
  | .holdsEmptied => false

/-! ### Becoming IDLE -/

/-- An abort (R135): IDLE, every step timer removed, a return claim owed for each EASING entry. -/
def Sequencer.aborted (q : Sequencer) : Sequencer :=
  { q.noTimers.dropOwed with
    state := .idle
    returnsOwed := (q.entries.filter fun e => decide (e.status = .easing)).map PlanEntry.station }

/-- The emergency report (R138): a RUNNING or PAUSED sequencer becomes IDLE with its statuses frozen. -/
def Sequencer.frozen (q : Sequencer) : Sequencer :=
  if q.active then { q.noTimers.dropOwed with state := .idle } else q

/-- A window change (R107, R120): no entry, cursor 0, IDLE; width and step timeout kept. -/
def Sequencer.emptied (q : Sequencer) : Sequencer :=
  { q.dropOwed with entries := [], cursor := 0, state := .idle, returnsOwed := [] }

/-- DEPART (R123): every entry WAITING without timer and mark, cursor 0, RUNNING. -/
def Sequencer.departed (q : Sequencer) : Sequencer :=
  { q with
    entries := q.entries.map fun (e : PlanEntry) => { e with status := .waiting, timer := none, late := false }
    cursor := 0
    state := .running
    startsOwed := []
    returnsOwed := [] }.look

end Sys2Proof.Machine
end

