-- ==== Sys2Proof/Machine/Emergency.lean ====
section
/-! DEFINITION. The emergency release action on a face (R143, R147) and the home closing of a station (R93), which RESET_END
needs beside the commands of their own. -/

namespace Sys2Proof.Machine

/-- The emergency report to the Face Controller (R147): APPROACH, MOORED and DEPARTING go to CLEARED. -/
def GrantState.emergency : GrantState → GrantState
  | .approach | .moored | .departing => .cleared
  | .vacant => .vacant
  | .cleared => .cleared

/-- The action on a face (R143): the grant report is taken; one release claim is handed to each record of the window and
one report to the sequencer; EMERGENCY is latched. The claims and the report are taken by steps of their own (log 13). -/
def State.emergencyAction (s : State) (f : Face) : State :=
  let s := s.onFace f fun x => { x with grant := x.grant.emergency, planReports := x.planReports + 1 }
  let s := s.mapStations (inWindow (s.face f).window) fun c => { c with releaseClaims := c.releaseClaims + 1 }
  s.latchFace f .emergency

/-- The emergency reports that stand for the face's sequencer, taken (R138): `left` of them stay. A sequencer that was
RUNNING or PAUSED acts on no report of its lines from then on (R137). -/
def State.takePlanReportsTo (s : State) (f : Face) (left : Nat) : State :=
  let x := s.face f
  let t := s.onFace f fun x => { x with planReports := left, sequencer := x.sequencer.frozen }
  if x.sequencer.active then t.dropReports f else t

/-- All of them. -/
def State.takePlanReports (s : State) (f : Face) : State :=
  if (s.face f).planReports = 0 then s else s.takePlanReportsTo f 0

/-- An activation: the filtered level goes ACTIVE and the action follows (R141). -/
def State.activateEr (s : State) (f : Face) : State := (s.onFace f fun x => { x with erActive := true }).emergencyAction f

/-- A release claim on a record (Table 7-1, R144). -/
def Station.takeRelease (c : Station) : Station :=
  match c.state with
  | .slack | .rewind | .stowed => c
  | .payout | .heave | .tended | .locking | .locked | .easing | .fault | .halted => { c with holds := [] }.enterSlackOpening

/-- The current segment at a home closing (R93): a HEAVE segment ends by it; a RENDER segment's payout condition is
tested against the new payout. -/
def Station.endAtHome (c : Station) : Station :=
  match c.drive.cur with
  | none => c
  | some g => if g.kind = .heave then c.settleEnds else c.testCurrent EndCondition.onPayout

/-- A home closing (R93): the payout is 0.00 m referenced, the overrun 0, the current segment is tested, and "home closed"
is reported. -/
def Station.homeCloses (c : Station) : Station :=
  if c.drive.homeClosed then c
  else ({ c with drive := { c.drive with homeClosed := true, payout := some 0, overrun := 0 } }).endAtHome.takeHomeClosed

end Sys2Proof.Machine
end

