-- ==== Sys2Proof/Machine/BerthFaces.lean ====
section
/-! DEFINITION. Chapter 5: SET_WINDOW, ARRIVE, SECURE, VACATE and QUERY_FACE. -/

namespace Sys2Proof.Machine

/-- STOWED or HALTED (R106, R108). -/
def Station.atRest (c : Station) : Bool := decide (c.state = .stowed) || decide (c.state = .halted)

/-- Two windows share a station (R105). -/
def windowsMeet (v w : Option Window) : Bool := allStations.any fun i => inWindow v i && inWindow w i

/-- An accepted window change (R107): the window and the emptied plan. The records' face fields follow from the windows.
Reports to a sequencer that is IDLE are not kept (log 7). -/
def State.putWindow (s : State) (f : Face) (w : Option Window) : State :=
  ((s.dropReports f).onFace f fun x => { x with window := w, sequencer := x.sequencer.emptied }).dropReports f

/-- SET_WINDOW (R106): the four checks in their order. -/
def execSetWindow (face : Face) (base limit : Byte) (s : State) : Out :=
  hostRequest (.setWindow face base limit) (fun s =>
    let x := s.face face
    match windowOperand base limit with
    | none => (s, refusal .badValue)
    | some w =>
      if x.grant ≠ .vacant then (s, refusal .wrongState)
      else if ¬(s.windowAll x.window Station.atRest && s.windowAll w Station.atRest) then (s, refusal .wrongState)
      else if windowsMeet w (s.face (otherFace face)).window then (s, refusal .badValue)
      else (s.putWindow face w, ⟨.ok, []⟩)) s

/-- ARRIVE (R108): the five checks in their order. -/
def execArrive (face : Face) (tag : Half) (s : State) : Out :=
  hostRequest (.arrive face tag) (fun s =>
    let x := s.face face
    if x.grant ≠ .vacant then (s, refusal .wrongState)
    else if tag = 0 ∨ tag = (s.face (otherFace face)).tag then (s, refusal .badValue)
    else if x.window = none then (s, refusal .wrongState)
    else if x.erActive then (s, refusal .emergency)
    else if ¬s.windowAll x.window Station.atRest then (s, refusal .notStowed)
    else (s.onFace face fun x => { x with grant := .approach, tag := tag }, ⟨.ok, []⟩)) s

/-- SECURE (R109): every answer carries the secured count. -/
def execSecure (face : Face) (s : State) : Out :=
  hostRequest (.secure face) (fun s =>
    let x := s.face face
    let count := s.securedCount face
    if x.grant = .approach ∧ x.settings.minimumLines ≤ count then
      (s.onFace face fun x => { x with grant := .moored }, ⟨.ok, [natByte count]⟩)
    else (s, ⟨.wrongState, [natByte count]⟩)) s

/-- An accepted VACATE (R110). What is left of an emergency action is taken first: each release claim finds its record
STOWED and changes nothing, and the sequencer of a VACANT face is IDLE or DONE (R107, R144). DEDUCED, log 13. -/
def State.vacated (s : State) (f : Face) : State :=
  let s := (s.mapStations (inWindow (s.face f).window) fun c => { c with releaseClaims := 0 }).takePlanReports f
  s.onFace f fun x => { x with grant := .vacant, tag := 0 }

/-- VACATE (R110). -/
def execVacate (face : Face) (s : State) : Out :=
  hostRequest (.vacate face) (fun s =>
    let x := s.face face
    if ¬(x.grant = .approach ∨ x.grant = .cleared) then (s, refusal .wrongState)
    else if ¬s.windowAll x.window fun c => decide (c.state = .stowed) then (s, refusal .notStowed)
    else (s.vacated face, ⟨.ok, []⟩)) s

/-- QUERY_FACE (R113). -/
def execQueryFace (face : Face) (s : State) : Out :=
  hostRequest (.queryFace face) (fun s => (s, ⟨.ok, s.faceView face⟩)) s

end Sys2Proof.Machine
end

