-- ==== Sys2Proof/Machine/DeparturePlans.lean ====
section
/-! DEFINITION. Chapter 6: the plan requests and the steps of the Departure Sequencers. -/

namespace Sys2Proof.Machine

/-- The station bytes of a SET_PLAN when every one lies in the window (R121, check 4). -/
def planStations (w : Option Window) : List Byte → Option (List StationId)
  | [] => some []
  | b :: rest =>
    match stationOf b, planStations w rest with
    | some i, some is => if inWindow w i then some (i :: is) else none
    | _, _ => none

/-- No station appears twice (R121, check 5). -/
def noRepeat : List StationId → Bool
  | [] => true
  | i :: rest => decide (i ∉ rest) && noRepeat rest

/-- The numbers of a SET_PLAN lie in their ranges (R121, check 3). -/
def planNumbersOk (width : Byte) (timeout : Half) (count : Nat) : Bool :=
  decide (1 ≤ count) && decide (count ≤ Config.windowMax) && decide (1 ≤ width.toNat) && decide (width.toNat ≤ 4) &&
    decide (10 ≤ timeout.toNat) && decide (timeout.toNat ≤ 600)

/-- An entry as SET_PLAN writes it (R121). -/
def PlanEntry.fresh (i : StationId) : PlanEntry where
  station := i
  status := .waiting
  timer := none
  late := false

/-- The plan that SET_PLAN writes (R121). -/
def Sequencer.planned (q : Sequencer) (width timeout : Nat) (stations : List StationId) : Sequencer :=
  { q.dropOwed with
    entries := stations.map PlanEntry.fresh
    width := width
    timeout := timeout
    state := .idle
    cursor := 0
    returnsOwed := [] }

/-- SET_PLAN (R121): the five checks in their order. Claims owed by an abort are made before the new plan stands
(log 8). -/
def execSetPlan (face : Face) (width : Byte) (timeout : Half) (stations : List Byte) (s : State) : Out :=
  hostRequest (.setPlan face width timeout stations) (fun s =>
    let x := s.face face
    if x.sequencer.active then (s, refusal .wrongState)
    else if x.window = none then (s, refusal .wrongState)
    else if planNumbersOk width timeout stations.length = false then (s, refusal .badValue)
    else
      match planStations x.window stations with
      | none => (s, refusal .badValue)
      | some is =>
        if noRepeat is = false then (s, refusal .badValue)
        else ((s.settleSeq face).onSeq face fun q => q.planned width.toNat timeout.toNat is, ⟨.ok, []⟩)) s

/-- QUERY_PLAN (R122). -/
def execQueryPlan (face : Face) (s : State) : Out :=
  hostRequest (.queryPlan face) (fun s => (s, ⟨.ok, (s.seq face).view⟩)) s

/-- Every line of the plan is STOWED or REWIND: DEPART's own walk skips them all (R131). -/
def State.planAtEnd (s : State) (f : Face) : Bool :=
  (s.seq f).entries.all fun e =>
    decide ((s.st e.station).state = .stowed) || decide ((s.st e.station).state = .rewind)

/-- DEPART (R123): one claim changes the plan and the grant; the walk claims are made after the answer, but for a walk that
finds every line STOWED or REWIND: it ends and completes the plan within the step (R131). Claims owed by an abort are made
first (log 8), reports of the time before are not acted on (log 7), and an emergency report that still stands is taken
before, with the face MOORED and the plan not running (log 13). -/
def execDepart (face : Face) (s : State) : Out :=
  hostRequest (.depart face) (fun s =>
    let x := s.face face
    if x.grant ≠ .moored then (s, refusal .wrongState)
    else if x.sequencer.entries = [] then (s, refusal .wrongState)
    else
      let s := (s.settleSeq face).dropReports face
      let s := s.onFace face fun x =>
        { x with grant := .departing, planReports := 0, sequencer := x.sequencer.departed }
      (if s.planAtEnd face then s.walkMany ((s.seq face).entries.length + 1) face else s, ⟨.accepted, []⟩)) s

/-- PAUSE (R132): the walk and start claims owed are made first (log 8), and the sequencer they leave decides. -/
def execPause (face : Face) (s : State) : Out :=
  hostRequest (.pause face) (fun s =>
    if (s.seq face).state ≠ .running then (s, refusal .wrongState)
    else
      let s := s.settleSeq face
      if (s.seq face).state ≠ .running then (s, refusal .wrongState)
      else
        ((s.onSeq face fun q => { q with state := .paused .host }.dropOwed).latchFace face .planPaused, ⟨.ok, []⟩)) s

/-- The stations of the RETURNED entries, in list order. -/
def Sequencer.returned (q : Sequencer) : List StationId :=
  (q.entries.filter fun e => decide (e.status = .returned)).map PlanEntry.station

/-- RESUME (R134): start claims to the RETURNED entries, the test for completion, the walk. -/
def State.resumed (s : State) (f : Face) : State :=
  ((s.onSeq f fun q => { q with state := .running, startsOwed := q.returned }).testComplete f).lookOn f

/-- RESUME, from the host. -/
def execResume (face : Face) (s : State) : Out :=
  hostRequest (.resume face) (fun s =>
    match (s.seq face).state with
    | .paused _ => (s.resumed face, ⟨.ok, []⟩)
    | .idle | .running | .done => (s, refusal .wrongState)) s

/-- ABORT_DEPART accepted (R135, R111). -/
def State.abortPlan (s : State) (f : Face) : State :=
  (s.onFace f fun x =>
    { x with
      sequencer := x.sequencer.aborted
      grant := if x.grant = .departing then .moored else x.grant }).dropReports f

/-- ABORT_DEPART (R135): the claims owed are made first (log 8), and the sequencer they leave decides. -/
def execAbortDepart (face : Face) (s : State) : Out :=
  hostRequest (.abortDepart face) (fun s =>
    if (s.seq face).active = false then (s, refusal .wrongState)
    else
      let s := s.settleSeq face
      if (s.seq face).active = false then (s, refusal .wrongState) else (s.abortPlan face, ⟨.ok, []⟩)) s

/-! ### Steps of the sequencers -/

/-- STATE_REPORT (R129, R124): the sequencer of the record's face takes the line's next state report. -/
def execStateReport (station : StationId) (s : State) : Out :=
  live s fun s => s.takeReportOf station LineReport.isEntered

/-- HOLD_STACK_EMPTIED (R17). -/
def execHoldStackEmptied (station : StationId) (s : State) : Out :=
  live s fun s => s.takeReportOf station fun r => !r.isEntered

/-- WALK_CLAIM (R125): nothing when the face's sequencer owes none, or owes a start claim before it. -/
def execWalkClaim (face : Face) (s : State) : Out := live s fun s => s.walkOnce face

/-- START_CLAIM (R45, R129): the claim that the sequencer of the record's face owes the record, in its turn. -/
def execStartClaim (station : StationId) (s : State) : Out :=
  live s fun s =>
    match s.faceOf station with
    | some f => s.startOnce f station
    | none => s

/-- RETURN_CLAIM (R49, R136): the claim that the sequencer of the record's face owes the record. -/
def execReturnClaim (station : StationId) (s : State) : Out :=
  live s fun s =>
    match s.faceOf station with
    | some f => s.returnOnce f station
    | none => s

/-- The step timer of an entry expires (R130): step late, the timer spent, STEP_LATE on the entry's station. An IDLE or
DONE sequencer acts on no expiry (R137). -/
def State.expireStep (s : State) (f : Face) (i : StationId) : State :=
  if (s.seq f).active && ((s.seq f).find i).any (fun e => e.timer.isSome && e.status.inProgress) then
    (s.onSeq f fun q => q.edit i fun e => { e with timer := none, late := true }).setSt i ((s.st i).latch .stepLate)
  else s

/-- STEP_TIMER_EXPIRY (R130). -/
def execStepTimerExpiry (station : StationId) (s : State) : Out :=
  live s fun s =>
    match s.faceOf station with
    | some f => s.expireStep f station
    | none => s

end Sys2Proof.Machine
end

