-- ==== Sys2Proof/Machine/DriveEvents.lean ====
section
/-! DEFINITION. Chapter 4: the events of a Drive and Clamp channel, and the ease limit of chapter 2. -/

namespace Sys2Proof.Machine

/-- TENSION_END_CONDITION (R86, R87): the tension view meets the current segment's tension condition. -/
def execTensionEndCondition (station : StationId) (s : State) : Out :=
  stationEvent station (fun c => c.testCurrent EndCondition.onTension) s

/-- A running stall timer starts again at a count (R94). -/
def Drive.restartStall (d : Drive) (stallTime : Nat) : Drive :=
  { d with stallTimer := d.stallTimer.map fun _ => stallTime }

/-- The payout and the overrun after one count (R91). -/
def Drive.counted (d : Drive) (dir : CountDir) : Drive :=
  match d.payout, dir with
  | none, .render => { d with overrun := 0 }
  | none, .heave => d
  | some p, .render => { d with payout := some (min Config.payoutMax (p + 1)), overrun := 0 }
  | some 0, .heave => if d.homeClosed then d else { d with overrun := min Config.countMax (d.overrun + 1) }
  | some (p + 1), .heave => { d with payout := some p }

/-- The count is the arrival at zero with the home switch open (R34, R56, R91). -/
def Drive.arrives (d : Drive) (dir : CountDir) : Bool :=
  decide (d.payout = some 1) && decide (dir = .heave) && !d.homeClosed

/-- One encoder count (R90, R91): the stall timer, the payout, the test of a payout condition, the arrival at zero. -/
def Station.takeCount (c : Station) (dir : CountDir) : Station :=
  let arrives := c.drive.arrives dir
  let c := ({ c with drive := (c.drive.restartStall c.settings.stallTime).counted dir }).testCurrent
    EndCondition.onPayout
  if arrives then c.takeZero else c

/-- The encoder inputs take new levels: the decoder takes them, and a cycle they complete is a count (R90). -/
def Station.takeLevels (c : Station) (v : EncoderLevels) : Station :=
  let r := c.drive.decode v
  let c := { c with drive := r.1 }
  match r.2 with
  | some dir => c.takeCount dir
  | none => c

/-- ENCODER_COUNT (R90, R91): the levels that A and B take one after another, each count taken as its cycle is complete. -/
def execEncoderCount (station : StationId) (levels : List EncoderLevels) (s : State) : Out :=
  stationEvent station (fun c => levels.foldl Station.takeLevels c) s

/-- HOME_MARGIN_SPENT (R56): the overrun has reached the home margin in the creep. -/
def Station.spendMargin (c : Station) : Station :=
  if c.state = .rewind ∧ c.creepSpent.any (fun n => decide (n ≤ c.drive.overrun)) = true then c.enterFault .home else c

/-- HOME_MARGIN_SPENT. -/
def execHomeMarginSpent (station : StationId) (s : State) : Out := stationEvent station Station.spendMargin s

/-- HOME_CLOSING (R93). -/
def execHomeClosing (station : StationId) (s : State) : Out := stationEvent station Station.homeCloses s

/-- HOME_OPENING (R92): only the home status. -/
def execHomeOpening (station : StationId) (s : State) : Out :=
  stationEvent station (fun c => { c with drive := { c.drive with homeClosed := false } }) s

/-- DURATION_EXPIRY (R87): nothing when no duration timer runs. -/
def execDurationExpiry (station : StationId) (s : State) : Out :=
  stationEvent station (fun c => if c.drive.durTimer.isSome then (c.endSegment .duration).settleEnds else c) s

/-- STALL_EXPIRY (R95): nothing when no stall timer runs. -/
def execStallExpiry (station : StationId) (s : State) : Out :=
  stationEvent station (fun c => if c.drive.stallTimer.isSome then c.endSegment .stall else c) s

/-- CLAMP_CONFIRM (R97): the switch reading comes to be that of the commanded position, in travel. -/
def execClampConfirm (station : StationId) (s : State) : Out :=
  stationEvent station (fun c =>
    match c.drive.command with
    | some p => if c.drive.field.travelling then c.readSwitches p.reading else c
    | none => c) s

/-- CLAMP_TIMEOUT (R98): nothing when no travel deadline runs. -/
def execClampTimeout (station : StationId) (s : State) : Out :=
  stationEvent station (fun c =>
    if c.drive.deadline.isSome then
      ({ c with drive := { c.drive with field := .unknown, deadline := none } }).takeTimeout
    else c) s

/-- CLAMP_CHANGE (R100): the filtered switch reading changes. In travel the reading is taken as R97 gives. -/
def execClampChange (station : StationId) (reading : SwitchReading) (s : State) : Out :=
  stationEvent station (fun c => c.readSwitches reading) s

/-- EASE_LIMIT_EXPIRY (R48): nothing when no ease limit timer runs. -/
def execEaseLimitExpiry (station : StationId) (s : State) : Out :=
  stationEvent station (fun c => if c.easeTimer.isSome then c.enterFault .easeLimit else c) s

end Sys2Proof.Machine
end

