-- ==== Sys2Proof/Machine/EmergencyRelease.lean ====
section
/-! DEFINITION. Chapter 7: EMERGENCY_RELEASE, the ER inputs, and the claims of an action. -/

namespace Sys2Proof.Machine

/-- EMERGENCY_RELEASE (R142): accepted always; the answer carries the grant state found. -/
def execEmergencyRelease (face : Face) (s : State) : Out :=
  hostRequest (.emergencyRelease face) (fun s => (s.emergencyAction face, ⟨.accepted, [(s.face face).grant.code]⟩)) s

/-- ER_ACTIVATION (R141, R143): an input held active starts no further action. -/
def execErActivation (face : Face) (s : State) : Out :=
  live s fun s => if (s.face face).erActive then s else s.activateEr face

/-- ER_DEACTIVATION (R141): only the filtered level. -/
def execErDeactivation (face : Face) (s : State) : Out :=
  live s fun s => s.onFace face fun x => { x with erActive := false }

/-- RELEASE_CLAIM (R144): one of the claims handed to the record; nothing when none is (log 4). -/
def execReleaseClaim (station : StationId) (s : State) : Out :=
  stationEvent station (fun c =>
    if c.releaseClaims = 0 then c else { c with releaseClaims := c.releaseClaims - 1 }.takeRelease) s

/-- EMERGENCY_PLAN_REPORT (R138): one of the reports handed to the face's sequencer; nothing when none is (log 4). -/
def execEmergencyPlanReport (face : Face) (s : State) : Out :=
  live s fun s =>
    let n := (s.face face).planReports
    if n = 0 then s else s.takePlanReportsTo face (n - 1)

end Sys2Proof.Machine
end

