-- ==== Sys2Proof/Machine/ShipAccess.lean ====
section
/-! DEFINITION. The ship link's part of a request (R187, R188) and the Face Controller's part: access check, grant-state
check and selector lookup (R11, R12, R115 to R117). -/

namespace Sys2Proof.Machine

/-- The receiver holds a frame (Table 11-3). -/
def RxState.holdsFrame : RxState → Bool
  | .start | .bits | .discard => true
  | .idle | .blanked => false

/-- An answer handed to the transmitter: into the current slot when it is empty, else into the pending slot, where a
waiting answer is lost (R188). -/
def Link.handOver (l : Link) (t : TxFrame) : Link :=
  match l.current with
  | none => { l with current := some t }
  | some _ => { l with waiting := some t }

/-- The answer of the frame just decided, with the tag as received (R187). -/
def State.shipAnswer (s : State) (f : Face) (tag : Half) (a : Answer) : State :=
  s.onFace f fun x => { x with link := x.link.handOver ⟨tag, a⟩ }

/-- The receiver goes to IDLE and hunts for a start mark; a mark that `running` tells is in progress is ignored until it
ends (R182, R185, R186). -/
def Link.hunt (l : Link) (running : Bool) : Link := { l with rx := .idle, ignoring := running, earlier := [] }

/-- The receiver leaves its frame and hunts again (R184, R185). -/
def State.leaveFrame (s : State) (f : Face) (running : Bool := false) : State :=
  s.onFace f fun x => { x with link := x.link.hunt running }

/-- A refusal of the Face Controller, with the flag it names. -/
abbrev AccessRefusal := Status × Option LinkFlag

/-- The access check and the check against the grant state (R115, R116). `mooring` marks MARK_ATTACHED and TAKE_UP, which
are served in APPROACH and MOORED alone (Table 5-5). -/
def FaceState.access (x : FaceState) (mooring : Bool) (tag : Half) : Option AccessRefusal :=
  if x.grant = .vacant then some (.noGrant, some .noGrant)
  else if tag ≠ x.tag then some (.tagMismatch, some .tagMismatch)
  else if mooring = true ∧ (x.grant = .departing ∨ x.grant = .cleared) then some (.wrongState, none)
  else none

/-- The selector turned into a record (R11, R12, Table 1-4). -/
def State.lookup (s : State) (f : Face) (selector : Byte) : Except AccessRefusal StationId :=
  let w := (s.face f).window
  if selector.toNat ≤ 0x7F then
    match (windowStations w)[selector.toNat]? with
    | some i => .ok i
    | none => .error (.outsideWindow, some .outsideWindow)
  else if 0x81 ≤ selector.toNat ∧ selector.toNat ≤ 0xE3 then
    match (windowStations w).find? fun i => decide ((s.st i).fittingTag = some (selector - 0x80)) with
    | some i => .ok i
    | none => .error (.notFound, none)
  else .error (.badValue, none)

/-- A refusal answered, with its flag set. -/
def State.refuseShip (s : State) (f : Face) (tag : Half) (r : AccessRefusal) : State :=
  let s := match r.2 with
    | some k => s.raiseFlag f k
    | none => s
  s.shipAnswer f tag (refusal r.1)

/-- A whole, sound ship frame is decided at its end by one claim (R187, step 5). It is taken when the receiver holds a
frame; nothing is received otherwise (log 12). -/
def shipFrame (f : Face) (tag : Half) (mooring : Bool) (k : State → Except AccessRefusal (State × Answer)) (s : State) :
    Out :=
  live s fun s =>
    if (s.face f).link.rx.holdsFrame then
      let s := s.leaveFrame f
      match (s.face f).access mooring tag with
      | some r => s.refuseShip f tag r
      | none =>
        match k s with
        | .error r => s.refuseShip f tag r
        | .ok r => r.1.shipAnswer f tag r.2
    else s

/-- SHIP_CHANGE on an accepted ship request that changes a record (R21). -/
def Station.shipChanged (c : Station) (a : Answer) : Station := if a.status.taken then c.latch .shipChange else c

/-- A ship request on one line that changes its record: access, lookup, then the record's own rule. -/
def shipLine (f : Face) (tag : Half) (selector : Byte) (mooring : Bool)
    (g : State → StationId → Station → Station × Answer) (s : State) : Out :=
  shipFrame f tag mooring (fun s =>
    match s.lookup f selector with
    | .error r => .error r
    | .ok i =>
      let r := g s i (s.st i)
      .ok (s.onLine i fun _ => r.1.shipChanged r.2, r.2)) s

/-- The request `i` on one line that both ports take: the record's rule for the sender's side. -/
def lineRequest (sender : LineBy) (i : Instr) (mooring : Bool)
    (g : Holder → State → StationId → Station → Station × Answer) (s : State) : Out :=
  match sender with
  | .host station =>
    hostRequest i (fun s => let r := g .shore s station (s.st station); (s.onLine station fun _ => r.1, r.2)) s
  | .ship f tag selector => shipLine f tag selector mooring (g .ship) s

end Sys2Proof.Machine
end

