-- ==== Sys2Proof/Machine/LineStates.lean ====
section
/-! DEFINITION. Chapter 2 and sections 8.2 and 8.4: the line requests, CLEAR_FAULT and ADOPT. -/

namespace Sys2Proof.Machine

/-- The answer to an accepted line request carries the state the record holds after it (R25); what ends at once ends
within the request. DEDUCED, log 10. -/
def Station.answers (c : Station) (status : Status) : Station × Answer := (c, ⟨status, [c.state.code]⟩)

/-- The grant admits paying out: APPROACH or MOORED (Table 5-2). -/
def GrantState.paysOut : GrantState → Bool
  | .approach | .moored => true
  | _ => false

/-- PAYOUT in STOWED: the checks of R26 in their order. `x` is the record's face, if any. A release claim of an action on the
face while it was VACANT has been taken before, and found the line STOWED (R145, Table 7-2): what is left of it falls.
DEDUCED, log 13. -/
def Station.payoutFromStowed (c : Station) (x : Option FaceState) (target : Nat) : Station × Answer :=
  if target < 1 ∨ Config.payoutMax < target then (c, refusal .badValue)
  else
    match x with
    | none => (c, refusal .wrongState)
    | some x =>
      if x.grant.paysOut = false then (c, refusal .wrongState)
      else if x.erActive then (c, refusal .emergency)
      else if c.monitor.failed then (c, refusal .sensor)
      else if c.drive.homeClosed = false ∨ c.drive.field ≠ .opened then (c, refusal .wrongState)
      else ({ c with releaseClaims := 0 }.enterPayout x.tag target).answers .accepted

/-- PAYOUT in PAYOUT: a longer target replaces the segment (R28). -/
def Station.extendPayout (c : Station) (target : Nat) : Station × Answer :=
  if target < 1 ∨ Config.payoutMax < target ∨ target ≤ c.drive.payout.getD 0 then (c, refusal .badValue)
  else (({ c with drive := c.drive.stop }).write (c.payoutSegment target)).answers .accepted

/-- PAYOUT (R26, R28). -/
def execPayout (station : StationId) (target : Half) (s : State) : Out :=
  hostRequest (.payout station target) (fun s =>
    let c := s.st station
    let r := match c.state with
      | .stowed => c.payoutFromStowed ((s.faceOf station).map s.face) target.toNat
      | .payout => c.extendPayout target.toNat
      | _ => (c, refusal .wrongState)
    (s.onLine station fun _ => r.1, r.2)) s

/-- TAKE_UP (R31). -/
def Station.takeUp (c : Station) : Station × Answer :=
  if c.state ≠ .payout ∨ c.fittingTag = none then (c, refusal .wrongState)
  else if c.monitor.failed then (c, refusal .sensor)
  else c.enterHeave.answers .accepted

/-- TAKE_UP (R30). -/
def execTakeUp (sender : LineBy) (s : State) : Out := 
  lineRequest sender (.takeUp sender) true (fun _ _ _ c => c.takeUp) s

/-- LOCK (R38). -/
def Station.lock (c : Station) : Station × Answer :=
  if c.state = .tended then c.enterLocking.answers .accepted else (c, refusal .wrongState)

/-- LOCK, from the host. -/
def execLock (station : StationId) (s : State) : Out := hostLine (.lock station) station Station.lock s

/-- UNLOCK (R40). -/
def Station.unlock (c : Station) : Station × Answer :=
  if c.state = .locking ∨ c.state = .locked then c.enterTendedOpening.answers .ok else (c, refusal .wrongState)

/-- UNLOCK, from the host. -/
def execUnlock (station : StationId) (s : State) : Out := hostLine (.unlock station) station Station.unlock s

/-- RELEASE (R43, R44, R45). `inPlan`: the plan of the record's face lists the station while the grant is DEPARTING. -/
def Station.release (c : Station) (inPlan : Bool) : Station × Answer :=
  if ¬(c.state = .payout ∨ c.state = .tended ∨ c.state = .locked) then (c, refusal .wrongState)
  else if inPlan then (c, refusal .inPlan)
  else if c.holds ≠ [] then (c, refusal .held)
  else if c.state = .payout then
    if c.fittingTag = none then (c, refusal .wrongState)
    else ((c.change .slack).latch .stateReached).answers .accepted
  else c.enterEasing.answers .accepted

/-- The plan of a record's face lists it while the face is DEPARTING (R43). -/
def State.inRunningPlan (s : State) (i : StationId) : Bool :=
  match s.faceOf i with
  | some f => decide ((s.face f).grant = .departing) && (s.seq f).lists i
  | none => false

/-- RELEASE, from the host. -/
def execRelease (station : StationId) (s : State) : Out :=
  hostRequest (.release station) (fun s =>
    let r := (s.st station).release (s.inRunningPlan station)
    (s.onLine station fun _ => r.1, r.2)) s

/-- CANCEL (R29). -/
def Station.cancel (c : Station) : Station × Answer :=
  if c.state ≠ .payout ∨ c.fittingTag ≠ none then (c, refusal .wrongState)
  else if c.holds ≠ [] then (c, refusal .held)
  else c.enterRewind.answers .accepted

/-- CANCEL, from the host. -/
def execCancel (station : StationId) (s : State) : Out := hostLine (.cancel station) station Station.cancel s

/-- MARK_CLEAR (R52). -/
def Station.markClear (c : Station) : Station × Answer :=
  if c.state = .slack then c.takeClear.answers .accepted else (c, refusal .wrongState)

/-- MARK_CLEAR, from the host or a ship. -/
def execMarkClear (sender : LineBy) (s : State) : Out := 
  lineRequest sender (.markClear sender) false (fun _ _ _ c => c.markClear) s

/-! ### CLEAR_FAULT (R152 to R156) -/

/-- The grant of a record's face, when it has a face out of VACANT. -/
def State.grantTag (s : State) (i : StationId) : Option Half :=
  match s.faceOf i with
  | some f => if (s.face f).grant = .vacant then none else some (s.face f).tag
  | none => none

/-- CLEAR_FAULT by its target; `granted`: the record has a face, whose grant is out of VACANT. -/
def Station.clearFaultTo (c : Station) (target : LineState) (granted : Bool) : Station × Answer :=
  match target with
  | .tended =>
    if granted = false ∨ c.drive.field ≠ .opened ∨ c.fittingTag = none then (c, refusal .wrongState)
    else if c.monitor.failed then (c, refusal .sensor)
    else c.enterTendedOpening.answers .ok
  | .locked =>
    if granted = false ∨ c.drive.field ≠ .closed then (c, refusal .wrongState) else c.enterLockedClosing.answers .ok
  | .slack => if c.holds ≠ [] then (c, refusal .held) else c.enterSlackOpening.answers .ok
  | .rewind =>
    if c.fittingTag ≠ none ∧ c.fault.map FaultInfo.cause ≠ some .parted then (c, refusal .wrongState)
    else if c.holds ≠ [] then (c, refusal .held)
    else if c.drive.field ≠ .opened then (c, refusal .wrongState)
    else c.enterRewindOpening.answers .accepted
  | _ => (c, refusal .badValue)

/-- CLEAR_FAULT (R152). -/
def execClearFault (station : StationId) (target : Byte) (s : State) : Out :=
  hostRequest (.clearFault station target) (fun s =>
    let c := s.st station
    let r :=
      if c.state ≠ .fault then (c, refusal .wrongState)
      else
        match resumeTarget target with
        | none => (c, refusal .badValue)
        | some t => c.clearFaultTo t (s.grantTag station).isSome
    (s.onLine station fun _ => r.1, r.2)) s

/-! ### ADOPT (R160 to R164) -/

/-- What ADOPT names beside its target: a fitting tag and a band, each when its mark is set. -/
structure Adoption where
  tag : Option Byte
  band : Option Band
  deriving DecidableEq, Repr

/-- The operands of an ADOPT by their presence marks: bit 0 the tag, bit 1 the band; any other bit set is BAD_VALUE
(R190), and so are a tag and a band out of range (R160, checks 3 and 4). -/
def adoption (presence tag : Byte) (low high : Half) : Option Adoption :=
  let a : Adoption :=
    ⟨if presence.getLsbD 0 then some tag else none,
      if presence.getLsbD 1 then some ⟨low.toNat, high.toNat⟩ else none⟩
  if presence.toNat < 4 ∧ a.tag.all tagInRange = true ∧ a.band.all Band.valid = true then some a else none

/-- The adopted record: vessel tag, the fitting tag when one is named, the band named or the one it has. -/
def Station.adopted (c : Station) (vesselTag : Option Half) (a : Adoption) : Station :=
  { c with vesselTag := vesselTag, fittingTag := a.tag, band := a.band.or c.band }

/-- ADOPT by its target (R161 to R164). `tag` is the vessel tag of the record's face out of VACANT; `dup` tells that the
tag named is carried by another record of the window. -/
def Station.adoptTo (c : Station) (target : LineState) (a : Adoption) (tag : Option Half) (dup : Bool) :
    Station × Answer :=
  match target with
  | .stowed =>
    if a.tag ≠ none ∨ a.band ≠ none then (c, refusal .badValue)
    else if c.drive.homeClosed = false then (c, refusal .wrongState)
    else (c.enterStowed.orderClamp .opened).answers .ok
  | .locked =>
    if tag = none ∨ c.drive.field ≠ .closed then (c, refusal .wrongState)
    else if dup then (c, refusal .duplicateTag)
    else ((c.adopted tag a).enterLockedClosing).answers .ok
  | .tended =>
    if tag = none ∨ c.drive.field ≠ .opened then (c, refusal .wrongState)
    else if c.monitor.failed then (c, refusal .sensor)
    else if dup then (c, refusal .duplicateTag)
    else ((c.adopted tag a).enterTendedOpening).answers .ok
  | .slack =>
    if ¬(c.drive.field = .opened ∨ c.drive.field = .unknown) then (c, refusal .wrongState)
    else if dup then (c, refusal .duplicateTag)
    else ((c.adopted tag a).enterSlackOpening).answers .ok
  | _ => (c, refusal .badValue)

/-- ADOPT (R160). -/
def execAdopt (station : StationId) (target presence fittingTag : Byte) (low high : Half) (s : State) : Out :=
  hostRequest (.adopt station target presence fittingTag low high) (fun s =>
    let c := s.st station
    let r :=
      if c.state ≠ .halted then (c, refusal .wrongState)
      else
        match adoptTarget target, adoption presence fittingTag low high with
        | some t, some a => c.adoptTo t a (s.grantTag station) (a.tag.any (s.tagTaken station))
        | _, _ => (c, refusal .badValue)
    (s.onLine station fun _ => r.1, r.2)) s

end Sys2Proof.Machine
end

