-- ==== Sys2Proof/Machine/LineTable.lean ====
section
/-! DEFINITION. Chapter 1: QUERY_LINE, WINDOW_LIST, the hold stack, the band and the fitting tag. -/

namespace Sys2Proof.Machine

/-- QUERY_LINE (R22): the record view, from the host or a ship. -/
def execQueryLine (sender : LineBy) (s : State) : Out :=
  match sender with
  | .host i => hostRequest (.queryLine sender) (fun s => (s, ⟨.ok, s.recordView i⟩)) s
  | .ship f tag selector =>
    shipFrame f tag false (fun s =>
      match s.lookup f selector with
      | .error r => .error r
      | .ok i => .ok (s, ⟨.ok, s.recordView i⟩)) s

/-- WINDOW_LIST (R23): the host names a face; a ship receives the list of its own face, and its selector is not read. -/
def execWindowList (sender : FaceBy) (s : State) : Out :=
  match sender with
  | .host f => hostRequest (.windowList sender) (fun s => (s, ⟨.ok, s.shoreList f⟩)) s
  | .ship f tag _ => shipFrame f tag false (fun s => .ok (s, ⟨.ok, s.shipList f⟩)) s

/-! ### Holds (R13 to R17) -/

/-- A push accepted (R14, R15): an EASING line returns to TENDED first. The answer is the new hold count. -/
def Station.acceptHold (c : Station) (h : Hold) : Station × Answer :=
  let c := if c.state = .easing then c.returnToTended else c
  let c := { c with holds := h :: c.holds }
  (c, ⟨.ok, [natByte c.holds.length]⟩)

/-- PUSH_HOLD by the line's state and stack (Table 1-5). -/
def Station.pushHold (c : Station) (h : Hold) : Station × Answer :=
  match c.state with
  | .slack | .rewind => (c, refusal .tooLate)
  | .stowed | .halted => (c, refusal .wrongState)
  | .payout | .heave | .tended | .locking | .locked | .easing | .fault =>
    if Config.holdDepth ≤ c.holds.length then (c.latch .holdFull, refusal .holdFull) else c.acceptHold h

/-- PUSH_HOLD (R14). -/
def execPushHold (sender : LineBy) (reason : Byte) (s : State) : Out :=
  lineRequest sender (.pushHold sender reason) false (fun holder _ _ c => c.pushHold ⟨holder, reason⟩) s

/-- POP_HOLD (R16, R17): the top entry goes when it is the requester's; an emptied stack is reported to the sequencer. -/
def Station.popHold (c : Station) (holder : Holder) : Station × Answer :=
  match c.holds with
  | [] => (c, refusal .wrongState)
  | top :: rest =>
    if top.holder = holder then
      let c := { c with
        holds := rest
        toSequencer := if rest = [] then c.toSequencer ++ [.holdsEmptied] else c.toSequencer }
      (c, ⟨.ok, [top.holder.code, top.reason, natByte rest.length]⟩)
    else (c, refusal .holdOrder)

/-- POP_HOLD (R16). -/
def execPopHold (sender : LineBy) (s : State) : Out :=
  lineRequest sender (.popHold sender) false (fun holder _ _ c => c.popHold holder) s

/-! ### Band (R18, R19) -/

/-- The states in which a band is taken (Table 1-6). -/
def LineState.takesBand : LineState → Bool
  | .payout | .heave | .tended | .locking | .locked | .easing | .fault => true
  | .stowed | .slack | .rewind | .halted => false

/-- A new band replaces the old; the channel uses it from its next sample (R18, R76). -/
def Station.putBand (c : Station) (b : Band) : Station :=
  { c with band := some b, monitor := { c.monitor with bandChanged := true } }

/-- SET_BAND (R18). -/
def Station.setBand (c : Station) (b : Band) : Station × Answer :=
  if c.state.takesBand = false then (c, refusal .wrongState)
  else if b.valid = false then (c, refusal .badValue)
  else (c.putBand b, ⟨.ok, []⟩)

/-- SET_BAND, from the host. -/
def execSetBand (station : StationId) (low high : Half) (s : State) : Out :=
  hostLine (.setBand station low high) station (fun c => c.setBand ⟨low.toNat, high.toNat⟩) s

/-- REQUEST_BAND (R19): each value is saturated into the face's floor and ceiling, then held to the test of SET_BAND. -/
def Station.requestBand (c : Station) (t : FaceSettings) (low high : Nat) : Station × Answer :=
  let b : Band := ⟨saturateInto t.bandFloor t.bandCeiling low, saturateInto t.bandFloor t.bandCeiling high⟩
  if c.state.takesBand = false then (c, refusal .wrongState)
  else if b.valid = false then (c, refusal .badValue)
  else
    (c.putBand b,
      ⟨if b.low = low ∧ b.high = high then .ok else .okClamped, natBytes b.low ++ natBytes b.high⟩)

/-- REQUEST_BAND, from a ship. -/
def execRequestBand (face : Face) (tag : Half) (selector : Byte) (low high : Half) (s : State) : Out :=
  shipLine face tag selector false
    (fun s _ c => c.requestBand (s.face face).settings low.toNat high.toNat) s

/-! ### Fitting tag (R20) -/

/-- The states in which a mark is taken, by the sender (Table 1-6). -/
def LineState.takesMark (state : LineState) (holder : Holder) : Bool :=
  match holder, state with
  | _, .payout => true
  | .shore, .heave | .shore, .tended | .shore, .locking | .shore, .locked => true
  | _, _ => false

/-- MARK_ATTACHED; `taken` tells that another record of the window carries the tag. -/
def Station.markAttached (c : Station) (holder : Holder) (tag : Byte) (taken : Bool) : Station × Answer :=
  if c.state.takesMark holder = false then (c, refusal .wrongState)
  else if tagInRange tag = false then (c, refusal .badValue)
  else if taken then (c, refusal .duplicateTag)
  else ({ c with fittingTag := some tag }, ⟨.ok, []⟩)

/-- MARK_ATTACHED (R20). -/
def execMarkAttached (sender : LineBy) (fittingTag : Byte) (s : State) : Out :=
  lineRequest sender (.markAttached sender fittingTag) true
    (fun holder s i c => c.markAttached holder fittingTag (s.tagTaken i fittingTag)) s

end Sys2Proof.Machine
end

