-- ==== Sys2Proof/Machine/Receiver.lean ====
section
/-! DEFINITION. The infrared line code (Table 11-1) and its light (R183), the measure of what the receive input shows (R184),
and the receiver's judgement of the elements that follow a start mark (R184, R185, Tables 11-3 and 11-4). -/

namespace Sys2Proof.Machine

/-- Where the receiver stands within a frame. `bits` keeps whole bytes and the bits of the byte being taken; `afterMark`
tells that a bit mark has ended and its space is being measured. -/
inductive Reception where
  | start
  | bits (bytes : List Byte) (taken : List Bool) (afterMark : Bool)
  | discard (header : List Byte)
  deriving DecidableEq, Repr

/-- How a reception ends, or that it goes on; `running` tells that the mark that made a frame error has not ended. -/
inductive ReceptionEnd where
  | going (r : Reception)
  | frameError (running : Bool)
  | complete (bytes : List Byte)
  | discardEnd (header : List Byte)
  deriving DecidableEq, Repr

/-! ### What the receive input shows (R183, R184) -/

/-- A tick, T/8, in ns. -/
def FaceSettings.tick (u : FaceSettings) : Nat := 125 * u.linkUnit

/-- The level that is a mark: low under NORMAL, high under INVERTED (Table 11-2). -/
def FaceSettings.isMark (u : FaceSettings) (high : Bool) : Bool := high == decide (u.receivePolarity = 1)

/-- A pulse as the receiver measures it: its length in ticks, rounded down (R184). -/
def FaceSettings.measure (u : FaceSettings) (p : Pulse) : Element :=
  if u.isMark p.high then .mark (p.ns / u.tick) else .space (p.ns / u.tick)

/-- The pulses of a signal, measured. -/
def FaceSettings.measured (u : FaceSettings) (signal : List Pulse) : List Element := signal.map u.measure

/-- The pulse that shows an element under the settings. -/
def FaceSettings.shown (u : FaceSettings) : Element → Pulse
  | .mark k => ⟨decide (u.receivePolarity = 1), k * u.tick⟩
  | .space k => ⟨!decide (u.receivePolarity = 1), k * u.tick⟩

/-! ### Judgement (R184, R185) -/

/-- The timing classes of Table 11-4. -/
def startSpaceInClass (t : Nat) : Bool := decide (24 ≤ t) && decide (t ≤ 40)
def markInClass (t : Nat) : Bool := decide (4 ≤ t) && decide (t ≤ 12)
def shortSpace (t : Nat) : Bool := decide (4 ≤ t) && decide (t ≤ 12)
def longSpace (t : Nat) : Bool := decide (20 ≤ t) && decide (t ≤ 28)

/-- The number of bytes of a frame whose first five are taken: 6 + n (R184). -/
def frameLength (bytes : List Byte) : Option Nat := bytes[4]?.map fun n => 6 + n.toNat

/-- The frame has all its bytes and waits for its closing mark. -/
def frameFull (bytes : List Byte) (taken : List Bool) : Bool :=
  decide (taken = []) && decide (frameLength bytes = some bytes.length)

/-- A bit taken at the end of its space; eight make a byte, and a fifth byte above 6 sends the receiver to DISCARD. -/
def takeBit (bytes : List Byte) (taken : List Bool) (b : Bool) : Reception :=
  let taken := taken ++ [b]
  if taken.length = 8 then
    let bytes := bytes ++ [byteOfBits taken]
    if bytes.length = 5 ∧ Config.shipPayloadMax < (byteOfBits taken).toNat then .discard bytes
    else .bits bytes [] false
  else .bits bytes taken false

/-- A mark that reaches 13 ticks is judged at that tick, before its end (R185). -/
def markStillRunning (t : Nat) : Bool := decide (13 ≤ t)

/-- One element judged (R184, R185). An element out of turn, which a receiver cannot measure, is a frame error too. -/
def judge (r : Reception) (e : Element) : ReceptionEnd :=
  match r, e with
  | .start, .space t => if startSpaceInClass t then .going (.bits [] [] false) else .frameError false
  | .bits bytes taken false, .mark t =>
    if markInClass t then
      if frameFull bytes taken then .complete bytes else .going (.bits bytes taken true)
    else .frameError (markStillRunning t)
  | .bits bytes taken true, .space t =>
    if shortSpace t then .going (takeBit bytes taken false)
    else if longSpace t then .going (takeBit bytes taken true)
    else .frameError false
  | .discard header, .space t => if 49 ≤ t then .discardEnd header else .going (.discard header)
  | .discard header, .mark _ => .going (.discard header)
  | .start, .mark t => .frameError (markStillRunning t)
  | .bits _ _ false, .space _ => .frameError false
  | .bits _ _ true, .mark t => .frameError (markStillRunning t)

/-- The elements judged in turn; what comes after the reception's end is not looked at. -/
def receive (r : Reception) : List Element → ReceptionEnd
  | [] => .going r
  | e :: rest =>
    match judge r e with
    | .going r' => receive r' rest
    | done => done

/-! ### The transmitter's line code (R183, Table 11-1) -/

/-- A bit: a mark of 1T and a space of 1T for 0 or 3T for 1. -/
def bitElements (b : Bool) : List Element := [.mark 8, .space (if b then 24 else 8)]

/-- What follows the 8T start mark of a frame: the 4T start space, the bits, the closing mark. -/
def lineElements (bytes : List Byte) : List Element :=
  .space 32 :: (bytes.flatMap fun b => (bitsOfByte b).flatMap bitElements) ++ [.mark 8]

/-- A whole frame: the 8T start mark and what follows it. -/
def frameElements (bytes : List Byte) : List Element := .mark 64 :: lineElements bytes

/-- The length of an element, in ticks. -/
def elementTicks : Element → Nat
  | .mark k => k
  | .space k => k

/-- The length of elements one after another, in ticks. -/
def elementsLength (es : List Element) : Nat := (es.map elementTicks).sum

/-- How far into a mark the sender is, in ns, `t` ns after the first of the elements began; none in a space and after the
last element. -/
def timeInMark (tick : Nat) : List Element → Nat → Option Nat
  | [], _ => none
  | .mark k :: rest, t => if t < k * tick then some t else timeInMark tick rest (t - k * tick)
  | .space k :: rest, t => if t < k * tick then none else timeInMark tick rest (t - k * tick)

/-- The carrier within a mark: each period begins at the active level for the carrier high time (R183). Both settings
count 0.1 µs. -/
def FaceSettings.carrierActive (u : FaceSettings) (t : Nat) : Bool :=
  decide (t % (100 * u.carrierPeriod) < 100 * u.carrierHigh)

/-- The pin level of the transmit output: high is active under NORMAL, low under INVERTED (Table 11-2). -/
def FaceSettings.txLevel (u : FaceSettings) (active : Bool) : Bool := active == decide (u.transmitPolarity = 0)

end Sys2Proof.Machine
end

