-- ==== Sys2Proof/Machine/ResetAndPorts.lean ====
section
/-! DEFINITION. Reset, the select line, the port's own refusals, IDENT and the settings requests (chapters 8 and 10). -/

namespace Sys2Proof.Machine

/-- POWER_ON_RESET (R158): all work is abandoned and every block is put at its reset values; the part stays in reset
until RESET_END. The queue of what the outside will send is not the part's. -/
def execPowerOnReset (s : State) : Out := .next { State.reset with pending := s.pending, inReset := true }

/-- The reading of two clamp switches (R96). -/
def readingOf (openMade closedMade : Bool) : SwitchReading :=
  match openMade, closedMade with
  | true, false => .openOnly
  | false, true => .closedOnly
  | false, false => .neither
  | true, true => .both

/-- A station takes its first levels: the encoder's, from which the decoder goes on (R90); the clamp field from the
switches (R101); a home switch found closed counts as a home closing (R82). -/
def Station.firstLevels (c : Station) (homeClosed openMade closedMade : Bool) (encoder : EncoderLevels) : Station :=
  let r := readingOf openMade closedMade
  let c := { c with drive := { c.drive with
    encoder := encoder, reading := r, field := fieldOfReading r, homeClosed := false } }
  if homeClosed then c.homeCloses else c

/-- A receive input that shows a mark when the reset ends: the receiver ignores that mark (R182). -/
def FaceState.firstLight (x : FaceState) (high : Bool) : FaceState :=
  { x with link := { x.link with ignoring := x.settings.isMark high } }

/-- RESET_END (R158): every block begins its work from its reset values. The filters take their first levels; a first ER
level found ACTIVE counts as an activation (R141); a SEL_N found low leaves the port IDLE (R174); a mark on a receive input
is ignored until it ends (R182). -/
def execResetEnd (pins : PinLevels) (s : State) : Out :=
  if s.inReset then
    let s := { s with inReset := false, shore := { s.shore with selLow := pins.selLow } }
    let s : State := { s with
      stations := Vector.ofFn fun i =>
        (s.st i).firstLevels (pins.homeClosed.getLsbD i.val) (pins.openMade.getLsbD i.val)
          (pins.closedMade.getLsbD i.val) ⟨pins.encA.getLsbD i.val, pins.encB.getLsbD i.val⟩ }
    let s := s.onFace .north fun x => x.firstLight (pins.irrx.getLsbD 0)
    let s := s.onFace .south fun x => x.firstLight (pins.irrx.getLsbD 1)
    let s := if pins.er.getLsbD 0 then s.activateEr .north else s
    .next (if pins.er.getLsbD 1 then s.activateEr .south else s)
  else .next s

/-- SELECT_BEGIN (R174): a falling edge of SEL_N; the bit count starts again at 0 and the port is RECEIVING. `bits` are the
bits that SDI has brought since, short of a request's end. -/
def execSelectBegin (s : State) (bits : List Bool := []) : Out :=
  live s fun s =>
    if s.shore.selLow then s
    else { s with shore := { ShorePort.reset with
      phase := .receiving, selLow := true, bitCount := bits.length, received := bits } }

/-- SELECT_END (R179): a rising edge of SEL_N; the port goes to IDLE. A request not yet complete is discarded with every
bit of it, and the answer of a complete one, which its owner has taken, is lost. -/
def execSelectEnd (s : State) : Out :=
  live s fun s => if s.shore.selLow then { s with shore := ShorePort.reset } else s

/-- SHORE_FRAME_REFUSED (R177): the port answers the first check that fails, at once and without payload. A frame that the
port does not refuse is no such command and changes nothing (log 19). -/
def execShoreFrameRefused (frame : List Byte) (s : State) : Out :=
  live s fun s =>
    if s.shore.takes frame then
      match readShoreFrame frame with
      | .refused status => s.shoreAnswer frame.length true (refusal status)
      | .incomplete | .request _ => s
    else s

/-- The port answers a request by itself, at once (R180). -/
def portRequest (i : Instr) (a : Answer) (s : State) : Out :=
  live s fun s =>
    match shoreFrameOf i with
    | some frame => if s.shore.takes frame then s.shoreAnswer frame.length true a else s
    | none => s

/-- IDENT (R180). -/
def execIdent (s : State) : Out :=
  portRequest .ident ⟨.ok, [Config.vendorCode, Config.partCode, Config.revisionCode]⟩ s

/-- The item a settings request names, within its scope (R181, check 1). -/
inductive NamedItem where
  | station (i : StationId) (k : StationItem)
  | face (f : Face) (k : FaceItem)
  deriving DecidableEq, Repr

/-- Check 1 of R181. A DEVICE scope names no item. -/
def namedItem (target : Scoped) (item : Byte) : Option NamedItem :=
  match target with
  | .station i => (StationItem.ofByte item).map (NamedItem.station i)
  | .face f => (FaceItem.ofByte item).map (NamedItem.face f)
  | .device | .other _ _ => none

/-- SET_SETTING (R181, R59, R80, R81, R102, R114, R182). -/
def execSetSetting (target : Scoped) (item : Byte) (value : Half) (s : State) : Out :=
  hostRequest (.setSetting target item value) (fun s =>
    match namedItem target item with
    | none => (s, refusal .badValue)
    | some (.station i k) =>
      match (s.st i).settingRefusal k value.toNat with
      | some r => (s, refusal r)
      | none =>
        (s.onLine i fun c => c.putSetting k value.toNat, ⟨.ok, settingPayload (scopeByte target) item value.toNat⟩)
    | some (.face f k) =>
      match (s.face f).settingRefusal k value.toNat with
      | some r => (s, refusal r)
      | none =>
        (s.onFace f fun x => x.putSetting k value.toNat,
          ⟨.ok, settingPayload (scopeByte target) item value.toNat⟩)) s

/-- GET_SETTING (R181): check 1 alone, in every state. -/
def execGetSetting (target : Scoped) (item : Byte) (s : State) : Out :=
  hostRequest (.getSetting target item) (fun s =>
    match namedItem target item with
    | none => (s, refusal .badValue)
    | some (.station i k) => (s, ⟨.ok, settingPayload (scopeByte target) item ((s.st i).settings.get k)⟩)
    | some (.face f k) => (s, ⟨.ok, settingPayload (scopeByte target) item ((s.face f).settings.get k)⟩)) s

end Sys2Proof.Machine
end

