-- ==== Sys2Proof/Machine/ShipLinkEvents.lean ====
section
/-! DEFINITION. Chapter 11: the receiver's and the transmitter's events, and the frames a ship link refuses by itself. -/

namespace Sys2Proof.Machine

/-- The settings in force when a mark that has now ended began, `changes` changes ago; none for a mark that was there
before the receiver came to IDLE (R182). -/
def FaceState.settingsAt (x : FaceState) (changes : Nat) : Option FaceSettings := (x.settings :: x.link.earlier)[changes]?

/-- The pulse is a mark from start min to start max (R184). -/
def FaceSettings.startsFrame (u : FaceSettings) (p : Pulse) : Bool :=
  match u.measure p with
  | .mark k => decide (u.startMin ≤ k) && decide (k ≤ u.startMax)
  | .space _ => false

/-- START_MARK_ACCEPTED (R184): in IDLE a mark from start min to start max ends. The frame keeps the settings in force when
that mark began (R182). The mark that was in progress when the receiver came to IDLE is the first to end, and is ignored
(R182, R185, R186). A mark that starts no frame changes nothing (log 19). -/
def execStartMarkAccepted (face : Face) (mark : Pulse) (s : State) (marks changes : Nat := 0) : Out :=
  live s fun s =>
    let x := s.face face
    match x.settingsAt changes with
    | some u =>
      if x.link.rx = .idle ∧ ¬(x.link.ignoring = true ∧ marks = 0) ∧ u.startsFrame mark = true then
        s.onFace face fun x => { x with link := { x.link with rx := .start, ignoring := false, rxSettings := u } }
      else s
    | none => s

/-- What the receiver makes of the pulses since the start mark, by the settings of the frame (R182, R184). -/
def Link.received (l : Link) (signal : List Pulse) : ReceptionEnd := receive .start (l.rxSettings.measured signal)

/-- SHIP_FRAME_ERROR (R185): the pulses since the start mark end in a frame error; it is not answered. A mark still running
at that moment is ignored until it ends; the mark that begins at the edge which ends a space out of class is a new one (log
24). Pulses that make no frame error are no such event and change nothing (log 19). -/
def execShipFrameError (face : Face) (signal : List Pulse) (s : State) : Out :=
  live s fun s =>
    if (s.face face).link.rx.holdsFrame then
      match (s.face face).link.received signal with
      | .frameError running => (s.leaveFrame face running).raiseFlag face .frameError
      | _ => s
    else s

/-- The tag bytes of a frame, as received. -/
def tagOfBytes : List Byte → Half
  | a :: b :: _ => joinHalf a b
  | _ => 0

/-- SHIP_FRAME_DISCARD_END (R185, R187 step 1): a silence ends a frame whose length byte was above 6; BAD_LENGTH, no
flag. -/
def execShipFrameDiscardEnd (face : Face) (signal : List Pulse) (s : State) : Out :=
  live s fun s =>
    if (s.face face).link.rx.holdsFrame then
      match (s.face face).link.received signal with
      | .discardEnd header => (s.leaveFrame face).shipAnswer face (tagOfBytes header) (refusal .badLength)
      | _ => s
    else s

/-- A refusal of steps 2 to 4 of R187: a bad check sets FRAME_ERROR and is answered with ANSWER_ERRORS ON alone. -/
def State.refuseFrame (s : State) (f : Face) (tag : Half) (status : Status) : State :=
  let s := s.leaveFrame f
  if status = .badCheck then
    let s := s.raiseFlag f .frameError
    if (s.face f).link.rxSettings.answerErrors = 1 then s.shipAnswer f tag (refusal .badCheck) else s
  else s.shipAnswer f tag (refusal status)

/-- SHIP_FRAME_REFUSED (R187, steps 2 to 4). A frame that passes them, or is not whole, is no such event and changes
nothing (log 19). -/
def execShipFrameRefused (face : Face) (frame : List Byte) (s : State) : Out :=
  live s fun s =>
    if (s.face face).link.rx.holdsFrame then
      match readShipFrame face frame with
      | .refused tag status => s.refuseFrame face tag status
      | .incomplete | .request _ => s
    else s

/-- ANSWER_TRANSMIT_START (R188, R186): the first mark of the current answer begins, when the receiver holds no frame; a
receiver measuring a mark in IDLE is cut. An answer that follows another back to back begins so too, 8T after it, with the
receiver BLANKED. The frame keeps the settings in force at this moment (R182). -/
def execAnswerTransmitStart (face : Face) (s : State) : Out :=
  live s fun s =>
    let l := (s.face face).link
    if l.current.isSome ∧ l.sending = false ∧ l.rx.holdsFrame = false then
      s.onFace face fun x =>
        { x with link := { x.link with rx := .blanked, sending := true, txSettings := x.settings } }
    else s

/-- The closing mark of the current answer ends (R188): the waiting answer becomes current and begins 8T later, or the slot
empties. The receiver stays BLANKED. -/
def Link.sent (l : Link) : Link := { l with current := l.waiting, waiting := none, sending := false }

/-- ANSWER_SENT (R188). -/
def execAnswerSent (face : Face) (s : State) : Out :=
  live s fun s =>
    if (s.face face).link.sending then 
      s.onFace face fun x => { x with link := x.link.sent }
    else s

/-- TURNAROUND_END (R186): 4 ms after the last closing mark, with no answer left to send, the receiver hunts again. A mark
that the input's level shows to be in progress is ignored until it ends. -/
def execTurnaroundEnd (face : Face) (s : State) (high : Bool := true) : Out :=
  live s fun s =>
    let x := s.face face
    if x.link.rx = .blanked ∧ x.link.sending = false ∧ x.link.current = none then
      s.leaveFrame face (x.settings.isMark high)
    else s

/-! ### The transmit output (R183) -/

/-- The carrier is at its active level on the transmit output, `t` ns after the first mark of the frame being sent began. -/
def Link.carrierOn (l : Link) (t : Nat) : Bool :=
  l.sending &&
    match l.current with
    | some x => (timeInMark l.txSettings.tick (frameElements x.bytes) t).any l.txSettings.carrierActive
    | none => false

/-- The level of IRTX: high or low. In spaces, when no frame is being sent, and in reset it is the inactive level. A changed
polarity acts from the next frame that begins (R182). -/
def State.irtx (s : State) (f : Face) (t : Nat) : Bool :=
  let l := (s.face f).link
  l.txSettings.txLevel (!s.inReset && l.carrierOn t)

end Sys2Proof.Machine
end

