-- ==== Sys2Proof/Machine/TensionEvents.lean ====
section
/-! DEFINITION. Chapter 3: the sample of a channel and the steps that take its reports. -/

namespace Sys2Proof.Machine

/-- TM_SAMPLE (R68): the window's rising edges, in 0.1 µs. -/
def execTmSample (station : StationId) (edges : List Nat) (s : State) : Out :=
  stationEvent station (fun c => c.takeSample edges) s

/-- SENSOR_FAILED (R69, R70). -/
def execSensorFailed (station : StationId) (s : State) : Out :=
  stationEvent station (fun c => c.takeReport fun r => decide (r = .sensorFailed)) s

/-- SENSOR_RECOVERED (R71). -/
def execSensorRecovered (station : StationId) (s : State) : Out :=
  stationEvent station (fun c => c.takeReport fun r => decide (r = .sensorRecovered)) s

/-- BAND_DWELL (R73). -/
def execBandDwell (station : StationId) (side : BandSide) (s : State) : Out :=
  stationEvent station (fun c => c.takeBandDwell side) s

/-- The report asks for a tending correction. -/
def MonitorReport.isCorrection : MonitorReport → Bool
  | .correction _ => true
  | _ => false

/-- TENDING_CORRECTION (R75). -/
def execTendingCorrection (station : StationId) (s : State) : Out :=
  stationEvent station (fun c => c.takeReport MonitorReport.isCorrection) s

/-- PARTED_LINE (R77). -/
def execPartedLine (station : StationId) (s : State) : Out :=
  stationEvent station (fun c => c.takeReport fun r => decide (r = .parted)) s

/-- LOCK_TRIP (R41, R79). -/
def execLockTrip (station : StationId) (s : State) : Out :=
  stationEvent station (fun c => c.takeReport fun r => decide (r = .lockTrip)) s

/-- AUTO_CLEAR (R53). -/
def execAutoClear (station : StationId) (s : State) : Out := stationEvent station Station.takeAutoClear s

end Sys2Proof.Machine
end

