-- ==== Sys2Proof/Machine/Dispatch.lean ====
section
/-! DEFINITION. The meaning of each command: one arm per constructor of `Instr`. -/

namespace Sys2Proof.Machine

def exec (i : Instr) (s : State) : Host.Outcome State Fault Refusal :=
  match i with
  | .powerOnReset => Sys2Proof.Machine.execPowerOnReset s
  | .selectBegin bits => Sys2Proof.Machine.execSelectBegin s bits
  | .selectEnd => Sys2Proof.Machine.execSelectEnd s
  | .shoreFrameRefused frame => Sys2Proof.Machine.execShoreFrameRefused frame s
  | .shipFrameRefused face frame => Sys2Proof.Machine.execShipFrameRefused face frame s
  | .ident => Sys2Proof.Machine.execIdent s
  | .queryLine sender => Sys2Proof.Machine.execQueryLine sender s
  | .windowList sender => Sys2Proof.Machine.execWindowList sender s
  | .pushHold sender reason => Sys2Proof.Machine.execPushHold sender reason s
  | .popHold sender => Sys2Proof.Machine.execPopHold sender s
  | .setBand station low high => Sys2Proof.Machine.execSetBand station low high s
  | .requestBand face tag selector low high => Sys2Proof.Machine.execRequestBand face tag selector low high s
  | .markAttached sender fittingTag => Sys2Proof.Machine.execMarkAttached sender fittingTag s
  | .payout station target => Sys2Proof.Machine.execPayout station target s
  | .takeUp sender => Sys2Proof.Machine.execTakeUp sender s
  | .lock station => Sys2Proof.Machine.execLock station s
  | .unlock station => Sys2Proof.Machine.execUnlock station s
  | .release station => Sys2Proof.Machine.execRelease station s
  | .cancel station => Sys2Proof.Machine.execCancel station s
  | .markClear sender => Sys2Proof.Machine.execMarkClear sender s
  | .clearFault station target => Sys2Proof.Machine.execClearFault station target s
  | .adopt station target presence fittingTag low high => Sys2Proof.Machine.execAdopt station target presence fittingTag low high s
  | .setWindow face base limit => Sys2Proof.Machine.execSetWindow face base limit s
  | .arrive face tag => Sys2Proof.Machine.execArrive face tag s
  | .secure face => Sys2Proof.Machine.execSecure face s
  | .vacate face => Sys2Proof.Machine.execVacate face s
  | .queryFace face => Sys2Proof.Machine.execQueryFace face s
  | .setPlan face width timeout stations => Sys2Proof.Machine.execSetPlan face width timeout stations s
  | .queryPlan face => Sys2Proof.Machine.execQueryPlan face s
  | .depart face => Sys2Proof.Machine.execDepart face s
  | .pause face => Sys2Proof.Machine.execPause face s
  | .resume face => Sys2Proof.Machine.execResume face s
  | .abortDepart face => Sys2Proof.Machine.execAbortDepart face s
  | .emergencyRelease face => Sys2Proof.Machine.execEmergencyRelease face s
  | .summary => Sys2Proof.Machine.execSummary s
  | .readAttention target => Sys2Proof.Machine.execReadAttention target s
  | .ackAttention target codes => Sys2Proof.Machine.execAckAttention target codes s
  | .setClassMask mask => Sys2Proof.Machine.execSetClassMask mask s
  | .clearLinkStatus face flags => Sys2Proof.Machine.execClearLinkStatus face flags s
  | .setSetting target item value => Sys2Proof.Machine.execSetSetting target item value s
  | .getSetting target item => Sys2Proof.Machine.execGetSetting target item s
  | .erActivation face => Sys2Proof.Machine.execErActivation face s
  | .erDeactivation face => Sys2Proof.Machine.execErDeactivation face s
  | .releaseClaim station => Sys2Proof.Machine.execReleaseClaim station s
  | .emergencyPlanReport face => Sys2Proof.Machine.execEmergencyPlanReport face s
  | .tmSample station edges => Sys2Proof.Machine.execTmSample station edges s
  | .sensorFailed station => Sys2Proof.Machine.execSensorFailed station s
  | .sensorRecovered station => Sys2Proof.Machine.execSensorRecovered station s
  | .bandDwell station side => Sys2Proof.Machine.execBandDwell station side s
  | .tendingCorrection station => Sys2Proof.Machine.execTendingCorrection station s
  | .partedLine station => Sys2Proof.Machine.execPartedLine station s
  | .lockTrip station => Sys2Proof.Machine.execLockTrip station s
  | .autoClear station => Sys2Proof.Machine.execAutoClear station s
  | .tensionEndCondition station => Sys2Proof.Machine.execTensionEndCondition station s
  | .encoderCount station levels => Sys2Proof.Machine.execEncoderCount station levels s
  | .homeMarginSpent station => Sys2Proof.Machine.execHomeMarginSpent station s
  | .homeClosing station => Sys2Proof.Machine.execHomeClosing station s
  | .homeOpening station => Sys2Proof.Machine.execHomeOpening station s
  | .durationExpiry station => Sys2Proof.Machine.execDurationExpiry station s
  | .stallExpiry station => Sys2Proof.Machine.execStallExpiry station s
  | .clampConfirm station => Sys2Proof.Machine.execClampConfirm station s
  | .clampTimeout station => Sys2Proof.Machine.execClampTimeout station s
  | .clampChange station reading => Sys2Proof.Machine.execClampChange station reading s
  | .easeLimitExpiry station => Sys2Proof.Machine.execEaseLimitExpiry station s
  | .stateReport station => Sys2Proof.Machine.execStateReport station s
  | .holdStackEmptied station => Sys2Proof.Machine.execHoldStackEmptied station s
  | .walkClaim face => Sys2Proof.Machine.execWalkClaim face s
  | .startClaim station => Sys2Proof.Machine.execStartClaim station s
  | .returnClaim station => Sys2Proof.Machine.execReturnClaim station s
  | .stepTimerExpiry station => Sys2Proof.Machine.execStepTimerExpiry station s
  | .shipFrameError face signal => Sys2Proof.Machine.execShipFrameError face signal s
  | .shipFrameDiscardEnd face signal => Sys2Proof.Machine.execShipFrameDiscardEnd face signal s
  | .answerTransmitStart face => Sys2Proof.Machine.execAnswerTransmitStart face s
  | .answerSent face => Sys2Proof.Machine.execAnswerSent face s
  | .turnaroundEnd face high => Sys2Proof.Machine.execTurnaroundEnd face s high
  | .resetEnd pins => Sys2Proof.Machine.execResetEnd pins s
  | .startMarkAccepted face mark marks changes => Sys2Proof.Machine.execStartMarkAccepted face mark s marks changes

end Sys2Proof.Machine
end

