-- ==== Sys2Proof/Safety.lean ====
section
/-! DEFINITION. What counts as a safe run, in the terms the claims use: the laws that the spec states of every record, of
every face and of the part, and what a command leaves alone. -/

namespace Sys2Proof.Machine

/-! ### Laws of one record -/

/-- The states whose record has an empty hold stack (R13, R45). -/
def LineState.unheld : LineState → Bool
  | .stowed | .slack | .rewind | .halted | .easing => true
  | .payout | .heave | .tended | .locking | .locked | .fault => false

/-- The states in which both drive slots are empty (R85). -/
def LineState.undriven : LineState → Bool
  | .stowed | .locked | .slack | .fault | .halted => true
  | .payout | .heave | .tended | .locking | .easing | .rewind => false

/-- The states that a VACANT face's window never shows (R112). -/
def LineState.barredWhileVacant : LineState → Bool
  | .payout | .heave | .tended | .locking | .locked | .easing => true
  | .stowed | .slack | .rewind | .fault | .halted => false

/-- R13: no more than two holds, and none in the states that have an empty stack. -/
def Station.HoldLaw (c : Station) : Prop := c.holds.length ≤ 2 ∧ (c.state.unheld = true → c.holds = [])

/-- R84, R85: a segment is current exactly while the drive is RUNNING, one waits only behind a current one, the drive runs
only with the clamp field OPEN, and both slots are empty in the states R85 names. -/
def Station.DriveLaw (c : Station) : Prop :=
  (c.drive.mode = .running ↔ c.drive.cur.isSome) ∧ (c.drive.nxt.isSome → c.drive.cur.isSome) ∧
    (c.drive.mode = .running → c.drive.field = .opened) ∧
    (c.state.undriven = true → c.drive.cur = none ∧ c.drive.nxt = none)

/-- Table 4-4: a deadline runs exactly while the clamp travels, and the clamp travels toward its command. -/
def Station.ClampLaw (c : Station) : Prop :=
  (c.drive.deadline.isSome ↔ c.drive.field.travelling = true) ∧
    (c.drive.field.travelling = true → c.drive.command.map ClampPosition.travel = some c.drive.field)

/-- R7, R45, R56: each optional field of a record stands in its own line state alone. -/
def Station.FieldLaw (c : Station) : Prop :=
  (c.fault.isSome ↔ c.state = .fault) ∧ (c.clearRemembered.isSome ↔ c.state = .slack) ∧
    (c.easingPhase.isSome ↔ c.state = .easing) ∧ (c.easeTimer.isSome ↔ c.state = .easing) ∧
    (c.creepSpent.isSome → c.state = .rewind)

/-- R3, R4, R5: a STOWED record carries no tag and no band, a HALTED one no tag; every other record carries a band, a band
is valid, a fitting tag lies from 1 to 99, and the default band is valid. -/
def Station.TagLaw (c : Station) : Prop :=
  (c.state = .stowed ∨ c.state = .halted → c.vesselTag = none ∧ c.fittingTag = none) ∧
    (c.band.isSome ↔ c.state ≠ .stowed) ∧ c.band.all Band.valid = true ∧ c.fittingTag.all tagInRange = true ∧
    Band.valid ⟨c.settings.bandLow, c.settings.bandHigh⟩ = true

/-- R63 to R66: at most four samples, none while the sensor is FAILED, fewer than four kept aside and none while it is OK,
no tension above 1000.0 kN. -/
def Station.SampleLaw (c : Station) : Prop :=
  c.monitor.samples.length ≤ 4 ∧ c.monitor.kept.length < 4 ∧ (c.monitor.failed = true → c.monitor.samples = []) ∧
    (c.monitor.failed = false → c.monitor.kept = []) ∧
    (∀ t ∈ c.monitor.samples ++ c.monitor.kept, t ≤ Config.tensionMax)

/-- R67, R73, R78: a level condition is pending only in a state whose comparison it belongs to. -/
def Station.LevelLaw (c : Station) : Prop :=
  (c.attn.belowBand = true ∨ c.attn.aboveBand = true ∨ c.monitor.belowDue = true ∨ c.monitor.aboveDue = true →
      c.state.bandCompared = true) ∧
    (c.attn.lockAlarm = true → c.state.lockProtected = true) ∧ (c.monitor.clearDue = true → c.state = .slack)

/-- R91: the payout lies from 0.00 to 250.00 m and the overrun below 65536. -/
def Station.PayoutLaw (c : Station) : Prop :=
  c.drive.payout.all (fun p => decide (p ≤ Config.payoutMax)) = true ∧ c.drive.overrun ≤ Config.countMax

/-! ### Laws of the part -/

/-- A record law held by every record. -/
def State.Every (s : State) (law : Station → Prop) : Prop := ∀ i, law (s.st i)

/-- R158: while RESET_N is low everything stands at its reset values. -/
def State.ResetLaw (s : State) : Prop :=
  s.inReset = true → s = { State.reset with pending := s.pending, inReset := true }

/-- A window of R105: base ≤ limit, at most 16 stations. -/
abbrev Window.Valid (w : Window) : Prop := w.base ≤ w.limit ∧ w.size ≤ 16

/-- R105: each window is valid, and no station lies in both. -/
def State.WindowLaw (s : State) : Prop :=
  (∀ f w, (s.face f).window = some w → w.Valid) ∧
    ∀ i, inWindow s.northFace.window i = true → inWindow s.southFace.window i = false

/-- R112: while a face is VACANT, no record of its window is in PAYOUT, HEAVE, TENDED, LOCKING, LOCKED or EASING. -/
def State.VacantLaw (s : State) : Prop :=
  ∀ f i, (s.face f).grant = .vacant → inWindow (s.face f).window i = true →
    (s.st i).state.barredWhileVacant = false

/-- R4: no fitting tag is carried by two records of one window. -/
def State.UniqueTags (s : State) : Prop :=
  ∀ f i j, inWindow (s.face f).window i = true → inWindow (s.face f).window j = true → i ≠ j →
    ∀ t, (s.st i).fittingTag = some t → (s.st j).fittingTag ≠ some t

/-- R105, R108, R115: a face is VACANT exactly while its tag is 0, a face out of VACANT has a window, and no tag stands at
both faces. -/
def State.GrantLaw (s : State) : Prop :=
  (∀ f, (s.face f).grant = .vacant ↔ (s.face f).tag = 0) ∧
    (∀ f, (s.face f).window = none → (s.face f).grant = .vacant) ∧
    (s.northFace.tag = s.southFace.tag → s.northFace.tag = 0)

/-- R167, R189: LINK_ERROR is pending exactly while a link status flag of the face is set. -/
def State.LinkErrorLaw (s : State) : Prop := ∀ f, (s.face f).attn.linkError = (s.face f).link.flags.anySet

/-- R121, R127: no station is listed twice, the cursor does not pass the end, every entry before it has left WAITING and
BLOCKED, the one at it is WAITING or BLOCKED, and every entry after it is WAITING. -/
abbrev Sequencer.WalkLaw (q : Sequencer) : Prop :=
  (q.entries.map PlanEntry.station).Nodup ∧ q.cursor ≤ q.entries.length ∧
    (∀ e ∈ q.entries.take q.cursor, e.status.advances = true) ∧
    q.entries[q.cursor]?.all (fun e => !e.status.advances) = true ∧
    ∀ e ∈ q.entries.drop (q.cursor + 1), e.status = .waiting

/-- R128: the entries in progress never exceed the width. -/
def Sequencer.WidthLaw (q : Sequencer) : Prop := q.inProgress ≤ q.width

/-- R130, R135: a step timer runs only in an entry in progress, and only while the sequencer is RUNNING or PAUSED; return
claims are owed only while it is not. -/
def Sequencer.TimerLaw (q : Sequencer) : Prop :=
  (∀ e ∈ q.entries, e.timer.isSome → e.status.inProgress = true ∧ q.active = true) ∧
    (q.active = true → q.returnsOwed = [])

/-- R111, R121, R107: while a face is DEPARTING its sequencer is RUNNING or PAUSED; it is so otherwise only in CLEARED
with an emergency report still to be taken. -/
def FaceState.DepartureLaw (x : FaceState) : Prop :=
  (x.grant = .departing → x.sequencer.active = true ∧ x.planReports = 0) ∧
    (x.sequencer.active = true → x.grant = .departing ∨ (x.grant = .cleared ∧ 0 < x.planReports))

/-- R182, R186, R188: the transmitter sends only what stands in the current slot, an answer waits only behind a current
one, and the receiver is BLANKED while it sends. -/
def Link.SlotLaw (l : Link) : Prop :=
  (l.sending = true → l.current.isSome ∧ l.rx = .blanked) ∧ (l.waiting.isSome → l.current.isSome)

/-- R174: the port is IDLE while SEL_N is high, an answer stands exactly while it is ANSWERING, and bits of a request stand
only while it is RECEIVING, counted. -/
def State.PortLaw (s : State) : Prop :=
  (s.shore.selLow = false → s.shore.phase = .idle) ∧ (s.shore.answer.isSome ↔ s.shore.phase = .answering) ∧
    (s.shore.phase = .receiving → s.shore.bitCount = s.shore.received.length) ∧
    (s.shore.phase ≠ .receiving → s.shore.received = [])

/-! ### How a command completes -/

/-- The command answers a next state, and that state meets a test. -/
def Completes (c : Instr) (s : State) (after : State → Prop) : Prop := ∃ t, exec c s = .next t ∧ after t

/-! ### What a command leaves alone -/

/-- Every record outside `p` is as before. -/
def State.KeepsStations (s t : State) (p : StationId → Bool) : Prop := ∀ i, p i = false → t.st i = s.st i

/-- Every face outside `p` is as before. -/
def State.KeepsFaces (s t : State) (p : Face → Bool) : Prop := ∀ f, p f = false → t.face f = s.face f

/-- The queue, the reset line and the class mask are as before. -/
def State.KeepsDevice (s t : State) : Prop :=
  t.pending = s.pending ∧ t.inReset = s.inReset ∧ t.urgentMasked = s.urgentMasked ∧ t.routineMasked = s.routineMasked

/-- Nothing but the shore port differs. -/
def State.OnlyPort (s t : State) : Prop :=
  s.KeepsStations t (fun _ => false) ∧ s.KeepsFaces t (fun _ => false) ∧ s.KeepsDevice t

/-- Nothing but one record and the shore port differs. -/
def State.OnlyStationAndPort (s t : State) (i : StationId) : Prop :=
  s.KeepsStations t (fun j => decide (j = i)) ∧ s.KeepsFaces t (fun _ => false) ∧ s.KeepsDevice t

/-- Nothing but one record differs. -/
def State.OnlyStation (s t : State) (i : StationId) : Prop := s.OnlyStationAndPort t i ∧ t.shore = s.shore

/-- Nothing but one face and the shore port differs. -/
def State.OnlyFaceAndPort (s t : State) (f : Face) : Prop :=
  s.KeepsStations t (fun _ => false) ∧ s.KeepsFaces t (fun g => decide (g = f)) ∧ s.KeepsDevice t

/-- Nothing but one face differs. -/
def State.OnlyFace (s t : State) (f : Face) : Prop := s.OnlyFaceAndPort t f ∧ t.shore = s.shore

/-- Nothing but one record and one face differs. -/
def State.OnlyStationAndFace (s t : State) (i : StationId) (f : Face) : Prop :=
  s.KeepsStations t (fun j => decide (j = i)) ∧ s.KeepsFaces t (fun g => decide (g = f)) ∧ s.KeepsDevice t ∧
    t.shore = s.shore

/-! ### Requests and answers -/

/-- A host request can be taken: the part is out of reset and the shore port is RECEIVING, with no bit of another frame
(R158, R174, R178). SelectEdgesBeginAndEndATransaction says that bits of the request's own frame make no difference. -/
abbrev State.HostReady (s : State) : Prop :=
  s.inReset = false ∧ s.shore.phase = .receiving ∧ s.shore.received = []

/-- The shore port holds an answer, formed at once or with time for wait bytes, and a request frame with `n` payload bytes
has been taken (R175, R176). -/
def State.AnswersAfter (s t : State) (n : Nat) (atOnce : Bool) (status : Status) (payload : List Byte) : Prop :=
  t.shore = { s.shore with
    phase := .answering, bitCount := 8 * (n + 4), received := [], answer := some ⟨status, payload⟩, atOnce := atOnce }

/-- The same, by the rule of R177: the port's own refusals are formed at once, an owner's answer in its time. -/
def State.Answers (s t : State) (n : Nat) (status : Status) (payload : List Byte) : Prop :=
  s.AnswersAfter t n status.ofPort status payload

/-- A host request with `n` payload bytes is refused: the answer carries no payload and nothing else changes (R25, R190). -/
def State.Refuses (s t : State) (n : Nat) (status : Status) : Prop := s.OnlyPort t ∧ s.Answers t n status []

/-- A ship request is taken and passes the access check: the part is out of reset, the link holds a frame, the grant is out
of VACANT and the tag is the grant's (R115, R187). -/
abbrev State.ShipReady (s : State) (f : Face) (tag : Half) : Prop :=
  s.inReset = false ∧ (s.face f).link.rx.holdsFrame = true ∧ (s.face f).grant ≠ .vacant ∧ tag = (s.face f).tag

/-- The face serves MARK_ATTACHED and TAKE_UP (Table 5-5). -/
abbrev State.MooringServed (s : State) (f : Face) : Prop :=
  (s.face f).grant = .approach ∨ (s.face f).grant = .moored

/-- The frame is decided: the receiver hunts again, the transmitter has been given the answer with the tag as received,
and nothing else of the face has changed (R187, R188). -/
def State.ShipAnswers (s t : State) (f : Face) (tag : Half) (status : Status) (payload : List Byte) : Prop :=
  t.face f = { s.face f with
    link := { (s.face f).link with rx := .idle, ignoring := false, earlier := [] }.handOver ⟨tag, ⟨status, payload⟩⟩ }

/-- The frame is refused by the Face Controller with a flag (R11, R115, R189): the flags are those given, LINK_ERROR is
pending, and the answer carries the status and no payload. -/
def State.ShipRefused (s t : State) (f : Face) (tag : Half) (status : Status) (flags : LinkFlags) : Prop :=
  t.face f = { s.face f with
    link := { (s.face f).link with rx := .idle, ignoring := false, earlier := [], flags := flags }.handOver
      ⟨tag, ⟨status, []⟩⟩
    attn := (s.face f).attn.put .linkError true }

/-- The record of a selector: a berth line number below the window size, or the one record of the window that carries the
fitting tag (R11, R12). -/
def State.Selects (s : State) (f : Face) (selector : Byte) (i : StationId) : Prop :=
  ∃ w, (s.face f).window = some w ∧ w.Valid ∧ w.has i = true ∧
    ((selector.toNat ≤ 0x7F ∧ i.val = w.base.val + selector.toNat) ∨
      (0x81 ≤ selector.toNat ∧ selector.toNat ≤ 0xE3 ∧ (s.st i).fittingTag = some (selector - 0x80) ∧
        ∀ j, w.has j = true → j ≠ i → (s.st j).fittingTag ≠ some (selector - 0x80)))

/-! ### What a record keeps -/

/-- Vessel tag, fitting tag and band are kept. -/
def Station.KeepsTags (c d : Station) : Prop :=
  d.vesselTag = c.vesselTag ∧ d.fittingTag = c.fittingTag ∧ d.band = c.band

/-- Payout, overrun, decoder, home status and switch reading, settings and release claims are kept. -/
def Station.KeepsViews (c d : Station) : Prop :=
  d.drive.payout = c.drive.payout ∧ d.drive.overrun = c.drive.overrun ∧ d.drive.homeClosed = c.drive.homeClosed ∧
    d.drive.reading = c.drive.reading ∧ d.settings = c.settings ∧ d.releaseClaims = c.releaseClaims ∧
    d.drive.encoder = c.drive.encoder ∧ d.drive.quarters = c.drive.quarters

/-- Clamp command, clamp field and deadline are kept. -/
def Station.KeepsClamp (c d : Station) : Prop :=
  d.drive.command = c.drive.command ∧ d.drive.field = c.drive.field ∧ d.drive.deadline = c.drive.deadline

/-- The drive is in a state with both slots empty and no timer (R88). -/
abbrev Station.Emptied (d : Station) (mode : DriveMode) : Prop :=
  d.drive.mode = mode ∧ d.drive.cur = none ∧ d.drive.nxt = none ∧ d.drive.durTimer = none ∧ d.drive.stallTimer = none

/-- The drive runs one segment, with its timers just started (R85, R94). -/
def Station.Runs (d : Station) (g : Segment) (stall : Option Nat) : Prop :=
  d.drive.mode = .running ∧ d.drive.dir = g.kind ∧ d.drive.cur = some g ∧ d.drive.durTimer = g.duration ∧
    d.drive.stallTimer = stall

/-- No optional field of FAULT, SLACK, EASING or REWIND stands (Table 1-2). -/
abbrev Station.NoOptions (d : Station) : Prop :=
  d.fault = none ∧ d.clearRemembered = none ∧ d.easingPhase = none ∧ d.easeTimer = none ∧ d.creepSpent = none

/-- The line has changed its state to `new`: comparisons and level conditions as R67 gives, the views kept. -/
def Station.MovedTo (c d : Station) (new : LineState) : Prop :=
  d.state = new ∧ d.monitor = c.monitor.changed c.state new ∧ c.KeepsViews d

/-- The line has gone to FAULT with a cause (R149): previous state the one left, drive stopped and no clamp order, tags,
band and holds kept, FAULT latched. -/
def Station.Faulted (c d : Station) (cause : FaultCause) : Prop :=
  c.MovedTo d .fault ∧ d.fault = some ⟨cause, c.state⟩ ∧ d.clearRemembered = none ∧ d.easingPhase = none ∧
    d.easeTimer = none ∧ d.creepSpent = none ∧ d.Emptied .idle ∧ c.KeepsTags d ∧ c.KeepsClamp d ∧
    d.holds = c.holds ∧ d.attn = (c.attn.changed c.state .fault).put .fault true

/-- The record has been retired to STOWED at the end of a rewind (R8, R55). -/
def Station.Retired (c d : Station) : Prop :=
  c.MovedTo d .stowed ∧ d.vesselTag = none ∧ d.fittingTag = none ∧ d.band = none ∧ d.NoOptions ∧
    d.Emptied .idle ∧ c.KeepsClamp d ∧ d.holds = c.holds ∧
    d.attn = (c.attn.changed c.state .stowed).put .stateReached true

/-- The record's sequencer reports: those of before, then the new ones where they are heard. That a report no RUNNING or PAUSED
sequencer hears is not kept is DEDUCED, log 7. -/
def State.Reports (s t : State) (i : StationId) (new : List LineReport) : Prop :=
  (t.st i).toSequencer = (s.st i).toSequencer ++ if s.heard i then new else []

/-! ### The reset values (Table 8-4) -/

/-- A record and its channels at their reset values; the input switches are the outside's. -/
abbrev Station.AtReset (c : Station) : Prop :=
  c.state = .halted ∧ c.vesselTag = none ∧ c.fittingTag = none ∧ c.band = some ⟨1500, 3000⟩ ∧ c.holds = [] ∧
    c.NoOptions ∧ c.monitor.samples = [] ∧ c.monitor.failed = false ∧ c.monitor.invalidRun = 0 ∧ c.monitor.kept = [] ∧
    c.monitor.below = 0 ∧ c.monitor.above = 0 ∧ c.monitor.parted = 0 ∧ c.monitor.trip = 0 ∧ c.monitor.clearDwell = 0 ∧
    c.Emptied .idle ∧ c.drive.dir = .heave ∧ c.drive.payout = none ∧ c.drive.overrun = 0 ∧ c.drive.command = none ∧
    c.drive.deadline = none ∧ c.drive.quarters = 0 ∧ c.settings = {} ∧ c.attn = {}

/-- A face at its reset values. -/
abbrev FaceState.AtReset (x : FaceState) : Prop :=
  x.grant = .vacant ∧ x.tag = 0 ∧ x.window = none ∧ x.settings = {} ∧ x.erActive = false ∧ x.attn = {} ∧
    x.sequencer.entries = [] ∧ x.sequencer.width = 1 ∧ x.sequencer.timeout = 120 ∧ x.sequencer.state = .idle ∧
    x.sequencer.cursor = 0 ∧ x.link.rx = .idle ∧ x.link.current = none ∧ x.link.waiting = none ∧
    x.link.sending = false ∧ x.link.flags = {} ∧ x.link.earlier = [] ∧ x.link.rxSettings = {} ∧
    x.link.txSettings = {}

/-- The part at its reset values. -/
def State.AtReset (s : State) : Prop :=
  s.Every Station.AtReset ∧ (∀ f, (s.face f).AtReset) ∧ s.urgentMasked = false ∧ s.routineMasked = true ∧
    s.shore.phase = .idle ∧ s.shore.answer = none ∧ s.shore.received = []

/-! ### The settings items (Table 12-6) -/

/-- Each station item with its number and its range. -/
def stationItemTable : List (StationItem × Nat × Nat × Nat) :=
  [(.bandLow, 0x01, 1, 9950), (.bandHigh, 0x02, 51, 10000), (.payoutDuty, 0x03, 1, 100), (.heaveDuty, 0x04, 1, 100),
    (.easeDuty, 0x05, 1, 100), (.rewindDuty, 0x06, 1, 100), (.creepDuty, 0x07, 1, 100), (.tendDuty, 0x08, 5, 100)] ++
  [(.tendTime, 0x09, 2, 255), (.releaseThreshold, 0x0A, 10, 5000), (.slackThreshold, 0x0B, 1, 1000),
    (.clearDwell, 0x0C, 10, 2550), (.autoClear, 0x0D, 0, 1), (.easeLimit, 0x0E, 10, 600), (.homeMargin, 0x0F, 0, 500),
    (.hardLock, 0x10, 0, 1), (.f0, 0x11, 500, 15000), (.gain, 0x12, 1, 65535)] ++
  [(.periodMin, 0x13, 400, 20000), (.periodMax, 0x14, 400, 20000), (.invalidLimit, 0x15, 2, 30),
    (.bandDwell, 0x16, 1, 255), (.partedThreshold, 0x17, 0, 10000), (.partedDwell, 0x18, 1, 255),
    (.lockAlarm, 0x19, 0, 10000), (.lockTrip, 0x1A, 0, 10000), (.tripDwell, 0x1B, 1, 255), (.stallTime, 0x1C, 5, 100),
    (.travelLimit, 0x1D, 5, 100)]

/-- Each face item with its number and its range. -/
def faceItemTable : List (FaceItem × Nat × Nat × Nat) :=
  [(.minimumLines, 0x40, 1, 16), (.bandFloor, 0x41, 1, 9950), (.bandCeiling, 0x42, 51, 10000), (.linkUnit, 0x43, 200, 2000),
    (.carrierPeriod, 0x44, 100, 1000), (.carrierHigh, 0x45, 10, 99), (.receivePolarity, 0x46, 0, 1),
    (.transmitPolarity, 0x47, 0, 1), (.startMin, 0x48, 40, 64), (.startMax, 0x49, 64, 96), (.answerErrors, 0x4A, 0, 1)]

/-- f0, gain and the period limits are changed only while the line is STOWED or HALTED (R80). -/
def stationItemOpen (number : Nat) (state : LineState) : Prop :=
  0x11 ≤ number → number ≤ 0x14 → state = .stowed ∨ state = .halted

/-- The link items are changed only while the face is VACANT (R182). -/
def faceItemOpen (number : Nat) (grant : GrantState) : Prop := 0x43 ≤ number → grant = .vacant

/-- The value keeps the station item's pair in order: the default band (R181) and the period limits (R80). -/
def stationPairKept (u : StationSettings) (number value : Nat) : Prop :=
  (number = 0x01 → value + 50 ≤ u.bandHigh) ∧ (number = 0x02 → 0 < u.bandLow ∧ u.bandLow + 50 ≤ value) ∧
    (number = 0x13 → value ≤ u.periodMax) ∧ (number = 0x14 → u.periodMin ≤ value)

/-- The value keeps the ship band floor 5.0 kN below the ceiling (R114). -/
def facePairKept (u : FaceSettings) (number value : Nat) : Prop :=
  (number = 0x41 → value + 50 ≤ u.bandCeiling) ∧ (number = 0x42 → u.bandFloor + 50 ≤ value)

/-! ### The request table (Tables 12-2 and 10-3) -/

/-- Target kinds (Table 10-3). -/
inductive TargetKind where
  | station | face | device | attentionScope | settingScope
  deriving DecidableEq, Repr

/-- Code, shortest and longest payload, and target kind of each request the shore port takes. -/
def requestTable : List (Nat × Nat × Nat × TargetKind) :=
  [(0x01, 0, 0, .device), (0x10, 0, 0, .station), (0x11, 0, 0, .face), (0x12, 1, 1, .station), (0x13, 0, 0, .station),
    (0x14, 4, 4, .station), (0x16, 1, 1, .station), (0x20, 2, 2, .station), (0x21, 0, 0, .station)] ++
  [(0x22, 0, 0, .station), (0x23, 0, 0, .station), (0x24, 0, 0, .station), (0x25, 0, 0, .station),
    (0x26, 0, 0, .station), (0x28, 1, 1, .station), (0x29, 7, 7, .station), (0x30, 2, 2, .face), (0x31, 2, 2, .face)] ++
  [(0x32, 0, 0, .face), (0x33, 0, 0, .face), (0x34, 0, 0, .face), (0x38, 4, 19, .face), (0x39, 0, 0, .face),
    (0x3A, 0, 0, .face), (0x3B, 0, 0, .face), (0x3C, 0, 0, .face), (0x3D, 0, 0, .face), (0x40, 0, 0, .face)] ++
  [(0x48, 0, 0, .device), (0x49, 1, 1, .attentionScope), (0x4A, 1, 10, .attentionScope), (0x4B, 1, 1, .device),
    (0x50, 1, 1, .face), (0x58, 4, 4, .settingScope), (0x59, 2, 2, .settingScope)]

/-- The target lies in the range of its kind; a scope the request does not allow passes (R177, check 5). -/
def targetOk (kind : TargetKind) (target : Byte) (payload : List Byte) : Bool :=
  match kind, payload with
  | .station, _ => decide (target.toNat < 24)
  | .face, _ => decide (target.toNat < 2)
  | .device, _ => decide (target.toNat = 0)
  | _, [] => true
  | .attentionScope, scope :: _ =>
    if scope = 0 then decide (target.toNat < 24) else if scope = 1 then decide (target.toNat < 2) else true
  | .settingScope, scope :: _ =>
    if scope = 0 then decide (target.toNat < 24)
    else if scope = 1 then decide (target.toNat < 2)
    else if scope = 2 then decide (target.toNat = 0)
    else true

/-- Code and payload length of each request a ship link takes (Table 12-2). -/
def shipTable : List (Nat × Nat) :=
  [(0x10, 0), (0x11, 0), (0x12, 1), (0x13, 0), (0x15, 4), (0x16, 1), (0x21, 0), (0x26, 0)]

/-- Checks 2 to 5 of R177 on a whole frame: the status of the first that fails. -/
def portCheck (code target : Byte) (payload : List Byte) (check : Byte) : Option Status :=
  if byteSum ([code, target, natByte payload.length] ++ payload ++ [check]) ≠ 0 then some .badCheck
  else
    match requestTable.find? fun r => decide (r.1 = code.toNat) with
    | none => some .unknownRequest
    | some (_, low, high, kind) =>
      if payload.length < low ∨ high < payload.length then some .badLength
      else if targetOk kind target payload then none
      else some .badTarget

end Sys2Proof.Machine
end

