-- ==== Sys2Proof/WellFormed.lean ====
section
/-! DEFINITION. When a command's operands are of the row's own shape. What a request's values must satisfy is its owner's
check and gives a refusal, so it is not asked here; asked here is what the frame or the event itself cannot be otherwise. -/

namespace Sys2Proof

/-- A whole shore request frame: its length byte is above 40 and ends it, or payload and check byte follow (R175). -/
def ShoreFrameWhole (frame : List Byte) : Bool :=
  match frame with
  | [_, _, n] => decide (Config.shorePayloadMax < n.toNat)
  | _ :: _ :: n :: rest => decide (n.toNat ≤ Config.shorePayloadMax) && decide (rest.length = n.toNat + 1)
  | _ => false

/-- A whole ship request frame: tag, code, selector, length up to 6, payload and check byte (R184). -/
def ShipFrameWhole (frame : List Byte) : Bool :=
  match frame with
  | _ :: _ :: _ :: _ :: n :: rest => decide (n.toNat ≤ Config.shipPayloadMax) && decide (rest.length = n.toNat + 1)
  | _ => false

/-- Time stamps of rising edges in one window: rising, within 100 ms of 0.1 µs counts (R61). -/
def RisingInWindow : List Nat → Bool
  | [] => true
  | [a] => decide (a < 1000000)
  | a :: b :: rest => decide (a < b) && RisingInWindow (b :: rest)

/-- Bits clocked since SEL_N fell that do not yet end a request: its last byte is still to come (R175). -/
def BeforeRequestEnd (bits : List Bool) : Bool :=
  match Machine.wholeBytes bits with
  | _ :: _ :: n :: _ => decide (n.toNat ≤ Config.shorePayloadMax) && decide (bits.length < 8 * (n.toNat + 4))
  | _ => true

/-- Pulses as an input shows them: each lasts, and the level changes from one to the next. -/
def Alternating : List Pulse → Bool
  | [] => true
  | [p] => decide (0 < p.ns)
  | p :: q :: rest => decide (0 < p.ns) && decide (p.high ≠ q.high) && Alternating (q :: rest)

/-- A target of READ_ATTENTION or ACK_ATTENTION: a station, a face, or a scope these do not allow, DEVICE among them
(R172). -/
def Scoped.attentionShape : Scoped → Bool
  | .other scope _ => decide (2 ≤ scope.toNat)
  | .device => false
  | .station _ | .face _ => true

/-- A scope that the settings requests do not allow: none of the three (R181). -/
def Scoped.settingShape : Scoped → Bool
  | .other scope _ => decide (3 ≤ scope.toNat)
  | _ => true

/-- The command has the shape of its row. -/
def Instr.WellFormed (i : Instr) : Bool :=
  match i with
  | .shoreFrameRefused frame => ShoreFrameWhole frame
  | .shipFrameRefused _ frame => ShipFrameWhole frame
  | .setPlan _ _ _ stations => decide (1 ≤ stations.length) && decide (stations.length ≤ Config.windowMax)
  | .readAttention target => target.attentionShape
  | .ackAttention target codes => target.attentionShape && decide (codes.length ≤ 9)
  | .setSetting target _ _ => target.settingShape
  | .getSetting target _ => target.settingShape
  | .tmSample _ edges => RisingInWindow edges
  | .selectBegin bits => BeforeRequestEnd bits
  | .encoderCount _ levels => !levels.isEmpty
  | .shipFrameError _ signal => !signal.isEmpty && Alternating signal
  | .shipFrameDiscardEnd _ signal => !signal.isEmpty && Alternating signal
  | .startMarkAccepted _ mark _ _ => decide (0 < mark.ns)
  | .powerOnReset | .selectEnd | .ident | .queryLine _ | .windowList _ | .pushHold _ _ | .popHold _
  | .setBand _ _ _ | .requestBand _ _ _ _ _ | .markAttached _ _ | .payout _ _ | .takeUp _ | .lock _ | .unlock _
  | .release _ | .cancel _ | .markClear _ | .clearFault _ _ | .adopt _ _ _ _ _ _ | .setWindow _ _ _ | .arrive _ _
  | .secure _ | .vacate _ | .queryFace _ | .queryPlan _ | .depart _ | .pause _ | .resume _ | .abortDepart _
  | .emergencyRelease _ | .summary | .setClassMask _ | .clearLinkStatus _ _ | .erActivation _ | .erDeactivation _
  | .releaseClaim _ | .emergencyPlanReport _ | .sensorFailed _ | .sensorRecovered _ | .bandDwell _ _
  | .tendingCorrection _ | .partedLine _ | .lockTrip _ | .autoClear _ | .tensionEndCondition _
  | .homeMarginSpent _ | .homeClosing _ | .homeOpening _ | .durationExpiry _ | .stallExpiry _ | .clampConfirm _
  | .clampTimeout _ | .clampChange _ _ | .easeLimitExpiry _ | .stateReport _ | .holdStackEmptied _ | .walkClaim _
  | .startClaim _ | .returnClaim _ | .stepTimerExpiry _ | .answerTransmitStart _ | .answerSent _ | .turnaroundEnd _ _
  | .resetEnd _ => true

end Sys2Proof
end

