-- ==== Sys2Proof/Certificates/Slice0/Obligations.lean ====
section
/-! DEFINITION. The statements for the provers. Each says what a rule of the spec says of the commands it names, and what
those commands leave alone. Titles, rules and tiers stand in OBLIGATIONS.json. -/

open Sys2Proof Sys2Proof.Machine

/-! ### The queue, the reset line and the two kinds of port -/

/-- A step takes the command at the front of the queue, first in, first out, and runs it with the queue's rest. On an
empty queue the block idles: the model's choice, log 18. -/
def Obligations.StepTakesTheFrontCommandOrIdles : Prop :=
  (∀ (c : Instr) (rest : List Instr) (s : State),
    s.pending = c :: rest → step s = exec c { s with pending := rest }) ∧
  ∀ s : State, s.pending = [] → step s = .next s

/-- Every command answers a next state in every state, and leaves the queue to `step`. -/
def Obligations.EveryCommandCompletesAndKeepsTheQueue : Prop :=
  ∀ (c : Instr) (s : State), Completes c s fun t => t.pending = s.pending

/-- While RESET_N is low the part takes no request and no input event (R158). Out of reset, a host request outside
RECEIVING is bytes that the port ignores, and a ship request with no frame held is nothing the receiver takes: what the
sender may do so is the model's reading, log 12. -/
def Obligations.NothingIsTakenInResetOrOutsideAPort : Prop :=
  ∀ (c : Instr) (s : State),
    (s.inReset = true → c ≠ .powerOnReset → (∀ pins, c ≠ .resetEnd pins) → exec c s = .next s) ∧
      ((shoreRequest c).isSome = true → s.shore.phase ≠ .receiving → exec c s = .next s) ∧
      ∀ f, shipFaceOf c = some f → (s.face f).link.rx.holdsFrame = false → exec c s = .next s

/-- POWER_ON_RESET puts every block at the values of Table 8-4, and the part right after reset holds the same values. -/
def Obligations.ResetPutsEveryBlockAtItsResetValues : Prop :=
  (∀ s : State, Completes .powerOnReset s fun t => t.AtReset ∧ t.inReset = true ∧ t.pending = s.pending) ∧
    State.reset.AtReset ∧ State.reset.inReset = false ∧ State.reset.pending = []

/-- RESET_END: the blocks begin from their reset values with the first levels of their pins: a home switch found closed
references the payout, the clamp field is read from the switches, the decoder begins from the encoder's levels, a first ER
level found ACTIVE latches EMERGENCY, a SEL_N found low leaves the port IDLE, and a receive input that is low, which is a
mark under the default polarity, is ignored until that mark ends. That the first levels come in one step is the model's
choice, log 3. -/
def Obligations.ResetEndTakesTheFirstLevels : Prop :=
  ∀ (pins : PinLevels) (s : State), s.inReset = true → s.AtReset →
    Completes (.resetEnd pins) s fun t =>
      t.inReset = false ∧ t.pending = s.pending ∧ t.urgentMasked = false ∧ t.routineMasked = true ∧
        t.shore = { s.shore with selLow := pins.selLow } ∧
        (∀ i, (t.st i).state = .halted ∧ (t.st i).attn = {} ∧ (t.st i).Emptied .idle ∧
          (t.st i).drive.homeClosed = pins.homeClosed.getLsbD i.val ∧
          (t.st i).drive.payout = (if pins.homeClosed.getLsbD i.val then some 0 else none) ∧
          (t.st i).drive.command = none ∧ (t.st i).drive.deadline = none ∧
          (t.st i).drive.encoder = ⟨pins.encA.getLsbD i.val, pins.encB.getLsbD i.val⟩ ∧
          (t.st i).drive.quarters = 0 ∧
          (t.st i).drive.field =
            (match pins.openMade.getLsbD i.val, pins.closedMade.getLsbD i.val with
              | true, false => ClampField.opened
              | false, true => ClampField.closed
              | _, _ => ClampField.unknown)) ∧
        (t.face .north).erActive = pins.er.getLsbD 0 ∧ (t.face .north).attn.emergency = pins.er.getLsbD 0 ∧
        (t.face .south).erActive = pins.er.getLsbD 1 ∧ (t.face .south).attn.emergency = pins.er.getLsbD 1 ∧
        (t.face .north).link = { (s.face .north).link with ignoring := !pins.irrx.getLsbD 0 } ∧
        (t.face .south).link = { (s.face .south).link with ignoring := !pins.irrx.getLsbD 1 } ∧
        ∀ f, (t.face f).grant = .vacant ∧ (t.face f).window = none ∧ (t.face f).sequencer = (s.face f).sequencer

/-! ### The shore port -/

/-- A falling edge of SEL_N starts a transaction and the bits that follow it, short of a request's end, are counted from 0; a
rising edge ends it in any phase, with the bits of a request not ended, and nothing else in the part changes. SDO is
high-impedance in reset, while SEL_N is high and in IDLE; it returns 0x00 while RECEIVING, then 0xEE in WAITING, at most 16
times and never before an answer formed at once, then the answer frame and 0x00 after it, each byte from its most significant
bit (R158, R174, R176, R179). Two clauses are the model's, not the spec's: that bits which begin a request's frame make no
difference to it, and bits which do not begin it keep it from being taken (log 12); and that WAITING is a view over a port
whose own phase is ANSWERING from the end of the request on (log 11). -/
def Obligations.SelectEdgesBeginAndEndATransaction : Prop :=
  ∀ s : State,
    (s.inReset = false →
      (s.shore.selLow = false → ∀ bits : List Bool, BeforeRequestEnd bits = true →
        Completes (.selectBegin bits) s fun t =>
          s.OnlyPort t ∧ t.shore.phase = .receiving ∧ t.shore.selLow = true ∧ t.shore.bitCount = bits.length ∧
            t.shore.received = bits ∧ t.shore.answer = none) ∧
      (s.shore.selLow = true →
        Completes .selectEnd s fun t =>
          s.OnlyPort t ∧ t.shore.phase = .idle ∧ t.shore.selLow = false ∧ t.shore.bitCount = 0 ∧
            t.shore.received = [] ∧ t.shore.answer = none) ∧
      ∀ (i : Instr) (frame : List Byte),
        (shoreFrameOf i = some frame ∨
          i = .shoreFrameRefused frame ∧ ∃ status, readShoreFrame frame = .refused status) →
        s.shore.phase = .receiving →
        (s.shore.received <+: frameBits frame →
          exec i s = exec i { s with shore := { s.shore with received := [] } }) ∧
        (¬s.shore.received <+: frameBits frame → exec i s = .next s)) ∧
    ∀ slow k j : Nat,
      (s.inReset = true ∨ s.shore.selLow = false ∨ s.shore.phase = .idle → s.sdo slow k j = .highZ) ∧
      (s.inReset = false → s.shore.selLow = true →
        (s.shore.phase = .receiving → s.sdo slow k j = .driven false) ∧
        ∀ a, s.shore.phase = .answering → s.shore.answer = some a →
          ∀ waits, waits = (if s.shore.atOnce then 0 else min slow 16) →
          (k < waits → s.shore.phaseAt slow k = .waiting ∧ s.sdo slow k j = .driven ((0xEE : Byte).getLsbD (7 - j))) ∧
          (waits ≤ k → s.shore.phaseAt slow k = .answering ∧
            s.sdo slow k j = .driven ((a.shoreFrame.getD (k - waits) 0).getLsbD (7 - j))))

/-- The port's own refusals, in the order of R177 and by the tables of chapters 10 and 12: a length above 40 ends the
request BAD_LENGTH; a whole frame is refused by the first check that fails, and a frame that passes them all is not the
port's to refuse. No owner sees a refused frame, and the answer forms at once. That SHORE_FRAME_REFUSED with a frame that
passes every check changes nothing is the model's choice, log 19. -/
def Obligations.ThePortRefusesByTheFirstCheckThatFails : Prop :=
  ∀ (code target n check : Byte) (payload : List Byte) (s : State), s.HostReady →
    (40 < n.toNat →
      Completes (.shoreFrameRefused [code, target, n]) s fun t =>
        s.OnlyPort t ∧ t.shore.phase = .answering ∧ t.shore.bitCount = 24 ∧
          t.shore.answer = some ⟨.badLength, []⟩ ∧ t.shore.atOnce = true) ∧
    (payload.length ≤ 40 →
      (∀ status, portCheck code target payload check = some status →
        Completes (.shoreFrameRefused ([code, target, natByte payload.length] ++ payload ++ [check])) s fun t =>
          s.Refuses t payload.length status) ∧
      (portCheck code target payload check = none →
        Completes (.shoreFrameRefused ([code, target, natByte payload.length] ++ payload ++ [check])) s fun t =>
          t = s))

/-- The bytes of a shore answer begin with the marker, the bytes of a ship answer with the tag as received, status and
payload follow, and each sums to 0 (R176, R177, R187, Table 12-1). -/
def Obligations.AnswerFramesSumToZero : Prop :=
  ∀ (a : Answer) (tag : Half),
    byteSum a.shoreFrame = 0 ∧ a.shoreFrame.length = a.payload.length + 4 ∧
      a.shoreFrame.take 3 = [0xA5, a.status.code, natByte a.payload.length] ∧
      (a.shoreFrame.drop 3).take a.payload.length = a.payload ∧
      byteSum (TxFrame.mk tag a).bytes = 0 ∧ (TxFrame.mk tag a).bytes.length = a.payload.length + 5 ∧
      (TxFrame.mk tag a).bytes.take 4 =
        [tag.extractLsb' 8 8, tag.extractLsb' 0 8, a.status.code, natByte a.payload.length] ∧
      ((TxFrame.mk tag a).bytes.drop 4).take a.payload.length = a.payload

/-- Reading the frame of a request gives the request back: every host request of the row's shape and every ship request,
with every operand at every value. -/
def Obligations.ReadingTheFrameOfARequestGivesItBack : Prop :=
  (∀ (i : Instr) (frame : List Byte), i.WellFormed = true → shoreFrameOf i = some frame →
    readShoreFrame frame = .request i ∧ 4 ≤ frame.length ∧ frame.length ≤ 44 ∧ byteSum frame = 0) ∧
  ∀ (i : Instr) (f : Face) (frame : List Byte), shipFaceOf i = some f → shipFrameOf i = some frame →
    readShipFrame f frame = .request i ∧ 6 ≤ frame.length ∧ frame.length ≤ 12 ∧ byteSum frame = 0

/-- The receiver takes the line code back to the bytes it was made from, for every frame whose length byte is right and at
most 6: from its elements, and from the pulses of the receive input measured under any link unit and either polarity. A
pulse is a mark by its level, and its measure is its length rounded down to a tick of T/8 (R182, R183, R184, Table 11-1). -/
def Obligations.ReceivingTheLineCodeGivesItsBytes : Prop :=
  (∀ (bytes : List Byte) (n : Byte), bytes[4]? = some n → n.toNat ≤ 6 → bytes.length = 6 + n.toNat →
    receive .start (lineElements bytes) = .complete bytes ∧
      ∀ u : FaceSettings, 0 < u.linkUnit →
        u.measured ((frameElements bytes).map u.shown) = frameElements bytes ∧
          ∀ l : Link, l.rxSettings = u → l.received ((lineElements bytes).map u.shown) = .complete bytes) ∧
  ∀ (u : FaceSettings) (p : Pulse) (k : Nat), k * (125 * u.linkUnit) ≤ p.ns → p.ns < (k + 1) * (125 * u.linkUnit) →
    (u.receivePolarity = 0 → u.measure p = if p.high then .space k else .mark k) ∧
      (u.receivePolarity = 1 → u.measure p = if p.high then .mark k else .space k)

/-! ### Reading the part -/

/-- IDENT returns the vendor, part and revision codes, at once; the host's reading requests are answered OK with the view of the
part as it stands; a ship that passes the access check reads one record by its selector and its own face's window. None
changes anything but the port or the link that it came by (R11, R12, R22, R23, R113, R122, R171, R172, R180). -/
def Obligations.QueriesShowThePartAndChangeNothing : Prop :=
  (∀ (i : StationId) (f : Face) (s : State), s.HostReady →
    Completes .ident s (fun t => s.OnlyPort t ∧ s.AnswersAfter t 0 true .ok [0x4F, 0x24, 0x12]) ∧
    Completes (.queryLine (.host i)) s (fun t => s.OnlyPort t ∧ s.Answers t 0 .ok (s.recordView i)) ∧
    Completes (.windowList (.host f)) s (fun t => s.OnlyPort t ∧ s.Answers t 0 .ok (s.shoreList f)) ∧
    Completes (.queryFace f) s (fun t => s.OnlyPort t ∧ s.Answers t 0 .ok (s.faceView f)) ∧
    Completes (.queryPlan f) s (fun t => s.OnlyPort t ∧ s.Answers t 0 .ok (s.seq f).view) ∧
    Completes .summary s (fun t => s.OnlyPort t ∧ s.Answers t 0 .ok s.summaryView) ∧
    Completes (.readAttention (.station i)) s (fun t =>
      s.OnlyPort t ∧ s.Answers t 1 .ok ([0, natByte i.val] ++ natBytes (s.st i).attn.bits)) ∧
    Completes (.readAttention (.face f)) s (fun t =>
      s.OnlyPort t ∧ s.Answers t 1 .ok ([1, faceCode f] ++ natBytes (s.face f).attn.bits)) ∧
    (s.recordView i).length = 24 ∧ (s.shoreList f).length = 4 * (windowStations (s.face f).window).length ∧
    (s.faceView f).length = 14 ∧ (s.seq f).view.length = 7 + 2 * (s.seq f).entries.length ∧
    s.summaryView.length = 8) ∧
  ∀ (f : Face) (tag : Half) (selector : Byte) (i : StationId) (s : State), s.ShipReady f tag →
    Completes (.windowList (.ship f tag selector)) s (fun t =>
      s.OnlyFace t f ∧ s.ShipAnswers t f tag .ok (s.shipList f)) ∧
    (s.Selects f selector i →
      Completes (.queryLine (.ship f tag selector)) s fun t =>
        s.OnlyFace t f ∧ s.ShipAnswers t f tag .ok (s.recordView i))

/-- The access check and the selector lookup refuse a ship frame with the status and the flag that the rules name, and
the frame reaches no record; the answer goes into the current slot, or waits where that is full (R11, R12, R115, R116,
R188). Shown for TAKE_UP, which meets every check. -/
def Obligations.TheFaceControllerRefusesShipFrames : Prop :=
  ∀ (f : Face) (tag : Half) (selector : Byte) (s : State),
    s.inReset = false → (s.face f).link.rx.holdsFrame = true →
    ((s.face f).grant = .vacant →
      Completes (.takeUp (.ship f tag selector)) s fun t => s.OnlyFace t f ∧
        s.ShipRefused t f tag .noGrant { (s.face f).link.flags with noGrant := true }) ∧
    ((s.face f).grant ≠ .vacant → tag ≠ (s.face f).tag →
      Completes (.takeUp (.ship f tag selector)) s fun t => s.OnlyFace t f ∧
        s.ShipRefused t f tag .tagMismatch { (s.face f).link.flags with tagMismatch := true }) ∧
    ((s.face f).grant = .departing ∨ (s.face f).grant = .cleared → tag = (s.face f).tag →
      Completes (.takeUp (.ship f tag selector)) s fun t => s.OnlyFace t f ∧ s.ShipAnswers t f tag .wrongState []) ∧
    (s.MooringServed f → tag = (s.face f).tag →
      (selector = 0x80 ∨ 0xE4 ≤ selector.toNat →
        Completes (.takeUp (.ship f tag selector)) s fun t =>
          s.OnlyFace t f ∧ s.ShipAnswers t f tag .badValue []) ∧
      (selector.toNat ≤ 0x7F →
        (∀ w, (s.face f).window = some w → w.Valid ∧ w.size ≤ selector.toNat) →
        Completes (.takeUp (.ship f tag selector)) s fun t => s.OnlyFace t f ∧
          s.ShipRefused t f tag .outsideWindow { (s.face f).link.flags with outsideWindow := true }) ∧
      (0x81 ≤ selector.toNat → selector.toNat ≤ 0xE3 →
        (∀ j, inWindow (s.face f).window j = true → (s.st j).fittingTag ≠ some (selector - 0x80)) →
        Completes (.takeUp (.ship f tag selector)) s fun t =>
          s.OnlyFace t f ∧ s.ShipAnswers t f tag .notFound [])) ∧
    ∀ (l : Link) (x : TxFrame), (l.handOver x).flags = l.flags ∧
      (l.current = none → (l.handOver x).current = some x ∧ (l.handOver x).waiting = l.waiting) ∧
      (l.current.isSome = true → (l.handOver x).current = l.current ∧ (l.handOver x).waiting = some x)

/-- The record view, the window list entries, the face view, the plan view and the summary show each field in the bytes of
Table 12-5; in the record view with its presence mark, and 0 in the place of an absent field; in the list entries the hold
count and the band status of Table 1-7. The output pins of a station follow its drive and its clamp command, and stand at
their reset levels after POWER_ON_RESET (R6, R22, R23, R84, R96, R113, R122, R158, R171). -/
def Obligations.TheViewsAndThePinsShowTheState : Prop :=
  ∀ (i : StationId) (f : Face) (s : State),
    (∀ status, status = (match (s.st i).average, (s.st i).band with
        | some a, some b => if a < b.low then 1 else if b.high < a then 3 else 2
        | _, _ => 0) → (s.st i).holds.length ≤ 2 →
      (s.shoreEntry i)[3]? = some (BitVec.ofNat 8 ((s.st i).holds.length + 16 * status)) ∧
      (s.shipEntry i)[0]? =
        some (BitVec.ofNat 8 ((s.st i).state.code.toNat + 16 * (s.st i).holds.length + 64 * status)) ∧
      ((s.shipEntry i)[0]?.map fun b => b.extractLsb' 4 2) = some (BitVec.ofNat 2 (s.st i).holds.length) ∧
      ((s.shipEntry i)[0]?.map fun b => b.extractLsb' 6 2) = some (BitVec.ofNat 2 status)) ∧
    (s.shoreEntry i).length = 4 ∧ (s.shipEntry i).length = 2 ∧
    (∀ g, (s.st i).drive.mode = .running → (s.st i).drive.cur = some g →
      (s.st i).pwmDuty = g.duty ∧ (s.st i).brakeReleased = true) ∧
    ((s.st i).drive.mode = .free → (s.st i).pwmDuty = 0 ∧ (s.st i).brakeReleased = true) ∧
    ((s.st i).drive.mode = .idle → (s.st i).pwmDuty = 0 ∧ (s.st i).brakeReleased = false) ∧
    ((s.st i).dirRender = true ↔ (s.st i).drive.dir = .render) ∧
    (∀ g stall, (s.st i).Runs g stall → (s.st i).dirRender = decide (g.kind = .render)) ∧
    ((s.st i).clampCloseDrive = true ↔ (s.st i).drive.command = some .closed) ∧
    ((s.st i).clampOpenDrive = true ↔ (s.st i).drive.command = some .opened) ∧
    (Completes .powerOnReset s fun t => (t.st i).pwmDuty = 0 ∧ (t.st i).brakeReleased = false ∧
      (t.st i).dirRender = false ∧ (t.st i).clampCloseDrive = false ∧ (t.st i).clampOpenDrive = false) ∧
    (s.recordView i)[0]? = some (natByte i.val) ∧
    (s.recordView i)[1]? = some (faceByte (s.faceOf i)) ∧
    (s.recordView i)[2]? = some (s.st i).state.code ∧
    ((s.recordView i)[3]?.map fun b => b.getLsbD 0) = some (s.st i).vesselTag.isSome ∧
    ((s.recordView i)[3]?.map fun b => b.getLsbD 1) = some (s.st i).fittingTag.isSome ∧
    ((s.recordView i)[3]?.map fun b => b.getLsbD 2) = some (s.st i).band.isSome ∧
    ((s.recordView i)[3]?.map fun b => b.getLsbD 3) = some (s.st i).drive.payout.isSome ∧
    ((s.recordView i)[3]?.map fun b => b.getLsbD 4) = some (!(s.st i).monitor.samples.isEmpty) ∧
    ((s.recordView i)[3]?.map fun b => b.getLsbD 5) = some (s.st i).fault.isSome ∧
    ((s.recordView i)[3]?.map fun b => b.getLsbD 6) = some (s.planEntry i).isSome ∧
    ((s.recordView i).drop 4).take 2 = halfBytes ((s.st i).vesselTag.getD 0) ∧
    (s.recordView i)[6]? = some ((s.st i).fittingTag.getD 0) ∧
    ((s.recordView i).drop 7).take 2 = natBytes (((s.st i).band.map Band.low).getD 0) ∧
    ((s.recordView i).drop 9).take 2 = natBytes (((s.st i).band.map Band.high).getD 0) ∧
    ((s.recordView i).drop 11).take 2 = natBytes ((s.st i).drive.payout.getD 0) ∧
    ((s.recordView i).drop 13).take 2 = natBytes ((s.st i).average.getD 0) ∧
    ((s.recordView i)[15]?.map fun b => b.extractLsb' 0 3) = some ((s.st i).drive.field.code.extractLsb' 0 3) ∧
    ((s.recordView i)[15]?.map fun b => b.getLsbD 7) = some (s.st i).monitor.failed ∧
    (s.recordView i)[17]? = some (((s.st i).holds[0]?.map Hold.reason).getD 0) ∧
    (s.recordView i)[18]? = some (((s.st i).holds[1]?.map Hold.reason).getD 0) ∧
    (s.recordView i)[19]? = some (((s.st i).fault.map fun x => x.cause.code).getD 0) ∧
    (s.recordView i)[20]? = some (((s.st i).fault.map fun x => x.previous.code).getD 0) ∧
    ((s.recordView i)[15]?.map fun b => b.getLsbD 6) =
      some (((s.st i).state == .slack && (s.st i).clearRemembered == some true) ||
        ((s.st i).state == .easing && (s.st i).easingPhase == some .rendering)) ∧
    ((s.st i).holds.length ≤ 2 →
      ((s.recordView i)[16]?.map fun b => b.extractLsb' 0 2) = some (BitVec.ofNat 2 (s.st i).holds.length) ∧
      ((s.recordView i)[16]?.map fun b => (b.getLsbD 4, b.getLsbD 5)) =
        some ((s.st i).holds[0]?.map Hold.holder == some .ship, (s.st i).holds[1]?.map Hold.holder == some .ship)) ∧
    (s.recordView i)[21]? = some (((s.planEntry i).map fun e => natByte e.1).getD 0) ∧
    (s.recordView i)[22]? = some (((s.planEntry i).map fun e => e.2.status.code).getD 0) ∧
    (s.recordView i)[23]? = some 0 ∧
    (s.shoreEntry i).take 3 = [natByte i.val, (s.st i).state.code, (s.st i).fittingTag.getD 0] ∧
    (s.shipEntry i).drop 1 = [(s.st i).fittingTag.getD 0] ∧
    ((s.shipEntry i)[0]?.map fun b => b.extractLsb' 0 4) = some ((s.st i).state.code.extractLsb' 0 4) ∧
    s.faceView f =
      [faceCode f, (s.face f).grant.code] ++ halfBytes (s.face f).tag ++
        (match (s.face f).window with
          | some w => [natByte w.base.val, natByte w.limit.val, natByte w.size]
          | none => [0xFF, 0xFF, 0]) ++
        [natByte (s.securedCount f), natByte (s.face f).settings.minimumLines] ++
        natBytes (s.face f).settings.bandFloor ++ natBytes (s.face f).settings.bandCeiling ++
        [if (s.face f).erActive then 1 else 0] ∧
    (s.seq f).view.take 7 =
      [(s.seq f).state.code, (s.seq f).state.reasonCode, natByte (s.seq f).width] ++ natBytes (s.seq f).timeout ++
        [natByte (s.seq f).cursor, natByte (s.seq f).entries.length] ∧
    (∀ k e, (s.seq f).entries[k]? = some e →
      (s.seq f).view[7 + 2 * k]? = some (natByte e.station.val) ∧
      ((s.seq f).view[8 + 2 * k]?.map fun b => b.extractLsb' 0 3) = some (e.status.code.extractLsb' 0 3) ∧
      ((s.seq f).view[8 + 2 * k]?.map fun b => (b.getLsbD 4, b.getLsbD 5)) = some (e.timer.isSome, e.late)) ∧
    (∀ i : StationId,
      (s.summaryView[i.val / 8]?.map fun b => b.getLsbD (i.val % 8)) = some ((s.st i).attn.hasClass .urgent) ∧
      (s.summaryView[3 + i.val / 8]?.map fun b => b.getLsbD (i.val % 8)) = some ((s.st i).attn.hasClass .routine)) ∧
    (s.summaryView[6]?.map fun b => b.getLsbD 0) = some (s.northFace.attn.hasClass .urgent) ∧
    (s.summaryView[6]?.map fun b => b.getLsbD 1) = some (s.northFace.attn.hasClass .routine) ∧
    (s.summaryView[6]?.map fun b => b.getLsbD 2) = some (s.southFace.attn.hasClass .urgent) ∧
    (s.summaryView[6]?.map fun b => b.getLsbD 3) = some (s.southFace.attn.hasClass .routine) ∧
    (s.summaryView[7]?.map fun b => (b.getLsbD 0, b.getLsbD 1)) = some (s.urgentMasked, s.routineMasked)

/-! ### The hold stack -/

/-- An accepted PUSH_HOLD puts the new entry on top and changes nothing else of the line, from the host and from a ship,
whose push latches SHIP_CHANGE (R14, R21, Table 1-5). -/
def Obligations.AnAcceptedPushPutsTheHoldOnTop : Prop :=
  ∀ (i : StationId) (reason : Byte) (s : State),
    (s.st i).holds.length < 2 →
    ((s.st i).state = .payout ∨ (s.st i).state = .heave ∨ (s.st i).state = .tended ∨ (s.st i).state = .locking ∨
      (s.st i).state = .locked ∨ (s.st i).state = .fault) →
    (s.HostReady →
      Completes (.pushHold (.host i) reason) s fun t =>
        s.OnlyStationAndPort t i ∧ s.Answers t 1 .ok [natByte ((s.st i).holds.length + 1)] ∧
          t.st i = { s.st i with holds := ⟨.shore, reason⟩ :: (s.st i).holds }) ∧
    ∀ (f : Face) (tag : Half) (selector : Byte), s.ShipReady f tag → s.Selects f selector i →
      Completes (.pushHold (.ship f tag selector) reason) s fun t =>
        s.OnlyStationAndFace t i f ∧ s.ShipAnswers t f tag .ok [natByte ((s.st i).holds.length + 1)] ∧
          t.st i = { s.st i with
            holds := ⟨.ship, reason⟩ :: (s.st i).holds, attn := (s.st i).attn.put .shipChange true }

/-- A push accepted in EASING returns the line to TENDED: the drive is stopped, the easing phase and the ease limit timer
are removed, the clamp goes on as it stands, and no STATE_REACHED is latched. A push is refused HOLD_FULL on a full stack,
with HOLD_FULL latched; TOO_LATE in SLACK and REWIND; WRONG_STATE in STOWED and HALTED; the stack stays as it was. A ship's
push is taken in the same way, and the one that returns the line latches SHIP_CHANGE (R14, R15, R21, Table 1-5). -/
def Obligations.APushInOtherStatesReturnsTheLineOrIsRefused : Prop :=
  (∀ (f : Face) (tag : Half) (selector : Byte) (i : StationId) (reason : Byte) (s : State), s.ShipReady f tag →
    s.Selects f selector i →
    ((s.st i).state = .easing → (s.st i).holds = [] →
      Completes (.pushHold (.ship f tag selector) reason) s fun t =>
        s.OnlyStationAndFace t i f ∧ s.ShipAnswers t f tag .ok [1] ∧ (s.st i).MovedTo (t.st i) .tended ∧
          (s.st i).KeepsTags (t.st i) ∧ (s.st i).KeepsClamp (t.st i) ∧ (t.st i).Emptied .idle ∧ (t.st i).NoOptions ∧
          (t.st i).holds = [⟨.ship, reason⟩] ∧
          (t.st i).attn = ((s.st i).attn.changed .easing .tended).put .shipChange true ∧
          s.Reports t i [.entered .tended]) ∧
    ((s.st i).state = .slack ∨ (s.st i).state = .rewind →
      Completes (.pushHold (.ship f tag selector) reason) s fun t =>
        s.OnlyFace t f ∧ s.ShipAnswers t f tag .tooLate []) ∧
    ((s.st i).state = .stowed ∨ (s.st i).state = .halted →
      Completes (.pushHold (.ship f tag selector) reason) s fun t =>
        s.OnlyFace t f ∧ s.ShipAnswers t f tag .wrongState []) ∧
    (¬((s.st i).state = .slack ∨ (s.st i).state = .rewind ∨ (s.st i).state = .stowed ∨ (s.st i).state = .halted) →
      2 ≤ (s.st i).holds.length →
      Completes (.pushHold (.ship f tag selector) reason) s fun t =>
        s.OnlyStationAndFace t i f ∧ s.ShipAnswers t f tag .holdFull [] ∧
          t.st i = { s.st i with attn := (s.st i).attn.put .holdFull true })) ∧
  ∀ (i : StationId) (reason : Byte) (s : State), s.HostReady →
    ((s.st i).state = .easing → (s.st i).holds = [] →
      Completes (.pushHold (.host i) reason) s fun t =>
        s.OnlyStationAndPort t i ∧ s.Answers t 1 .ok [1] ∧ (s.st i).MovedTo (t.st i) .tended ∧
          (s.st i).KeepsTags (t.st i) ∧ (s.st i).KeepsClamp (t.st i) ∧ (t.st i).Emptied .idle ∧ (t.st i).NoOptions ∧
          (t.st i).holds = [⟨.shore, reason⟩] ∧ (t.st i).attn = (s.st i).attn.changed .easing .tended ∧
          s.Reports t i [.entered .tended]) ∧
    ((s.st i).state = .slack ∨ (s.st i).state = .rewind →
      Completes (.pushHold (.host i) reason) s fun t => s.Refuses t 1 .tooLate) ∧
    ((s.st i).state = .stowed ∨ (s.st i).state = .halted →
      Completes (.pushHold (.host i) reason) s fun t => s.Refuses t 1 .wrongState) ∧
    (¬((s.st i).state = .slack ∨ (s.st i).state = .rewind ∨ (s.st i).state = .stowed ∨ (s.st i).state = .halted) →
      2 ≤ (s.st i).holds.length →
      Completes (.pushHold (.host i) reason) s fun t =>
        s.OnlyStationAndPort t i ∧ s.Answers t 1 .holdFull [] ∧
          t.st i = { s.st i with attn := (s.st i).attn.put .holdFull true })

/-- POP_HOLD removes the top entry of its own holder alone, answers with what it removed and the count left, and reports an
emptied stack; an entry of the other party refuses it HOLD_ORDER and an empty stack WRONG_STATE; a ship's pop latches
SHIP_CHANGE. That the report is kept only where a RUNNING or PAUSED sequencer hears the line is the model's reading, log 7
(R16, R17, R21). -/
def Obligations.APopRemovesTheTopEntryOfItsHolder : Prop :=
  ∀ (i : StationId) (s : State),
    (s.HostReady → (s.st i).holds = [] →
      Completes (.popHold (.host i)) s fun t => s.Refuses t 0 .wrongState) ∧
    (∀ (f : Face) (tag : Half) (selector : Byte), s.ShipReady f tag → s.Selects f selector i → (s.st i).holds = [] →
      Completes (.popHold (.ship f tag selector)) s fun t =>
        s.OnlyFace t f ∧ s.ShipAnswers t f tag .wrongState []) ∧
    ∀ (top : Hold) (rest : List Hold), (s.st i).holds = top :: rest →
      (s.HostReady → top.holder = .ship →
        Completes (.popHold (.host i)) s fun t => s.Refuses t 0 .holdOrder) ∧
      (s.HostReady → top.holder = .shore →
        Completes (.popHold (.host i)) s fun t =>
          s.OnlyStationAndPort t i ∧ s.Answers t 0 .ok [0, top.reason, natByte rest.length] ∧
            t.st i = { s.st i with holds := rest, toSequencer := (t.st i).toSequencer } ∧
            s.Reports t i (if rest = [] then [.holdsEmptied] else [])) ∧
      ∀ (f : Face) (tag : Half) (selector : Byte), s.ShipReady f tag → s.Selects f selector i →
        (top.holder = .shore →
          Completes (.popHold (.ship f tag selector)) s fun t =>
            s.OnlyFace t f ∧ s.ShipAnswers t f tag .holdOrder []) ∧
        (top.holder = .ship →
          Completes (.popHold (.ship f tag selector)) s fun t =>
            s.OnlyStationAndFace t i f ∧ s.ShipAnswers t f tag .ok [1, top.reason, natByte rest.length] ∧
              t.st i = { s.st i with
                holds := rest, toSequencer := (t.st i).toSequencer, attn := (s.st i).attn.put .shipChange true } ∧
              s.Reports t i (if rest = [] then [.holdsEmptied] else []))

/-! ### Band and fitting tag -/

/-- SET_BAND checks the state and then the values, and an accepted band replaces the old, to be compared from the next
sample. A ship's REQUEST_BAND is saturated into the face's floor and ceiling, stored when it passes the same tests, and
answered OK_CLAMPED where saturation changed it (R18, R19, R21). -/
def Obligations.ABandIsReplacedOrSaturated : Prop :=
  ∀ (i : StationId) (low high : Half) (s : State),
    (s.HostReady →
      ((s.st i).state.takesBand = true → 0 < low.toNat → low.toNat + 50 ≤ high.toNat → high.toNat ≤ 10000 →
        Completes (.setBand i low high) s fun t =>
          s.OnlyStationAndPort t i ∧ s.Answers t 4 .ok [] ∧
            t.st i = { s.st i with
              band := some ⟨low.toNat, high.toNat⟩, monitor := { (s.st i).monitor with bandChanged := true } }) ∧
      ((s.st i).state.takesBand = true → ¬(0 < low.toNat ∧ low.toNat + 50 ≤ high.toNat ∧ high.toNat ≤ 10000) →
        Completes (.setBand i low high) s fun t => s.Refuses t 4 .badValue) ∧
      ((s.st i).state = .stowed ∨ (s.st i).state = .slack ∨ (s.st i).state = .rewind ∨ (s.st i).state = .halted →
        Completes (.setBand i low high) s fun t => s.Refuses t 4 .wrongState)) ∧
    ∀ (f : Face) (tag : Half) (selector : Byte) (lo : Nat),
      lo = min (s.face f).settings.bandCeiling (max (s.face f).settings.bandFloor low.toNat) → ∀ hi : Nat,
      hi = min (s.face f).settings.bandCeiling (max (s.face f).settings.bandFloor high.toNat) →
      s.ShipReady f tag → s.Selects f selector i →
      ((s.st i).state.takesBand = true → 0 < lo → lo + 50 ≤ hi → hi ≤ 10000 →
        Completes (.requestBand f tag selector low high) s fun t =>
          s.OnlyStationAndFace t i f ∧
            s.ShipAnswers t f tag (if lo = low.toNat ∧ hi = high.toNat then .ok else .okClamped)
              (natBytes lo ++ natBytes hi) ∧
            t.st i = { s.st i with
              band := some ⟨lo, hi⟩, monitor := { (s.st i).monitor with bandChanged := true }
              attn := (s.st i).attn.put .shipChange true }) ∧
      ((s.st i).state.takesBand = true → ¬(0 < lo ∧ lo + 50 ≤ hi ∧ hi ≤ 10000) →
        Completes (.requestBand f tag selector low high) s fun t =>
          s.OnlyFace t f ∧ s.ShipAnswers t f tag .badValue []) ∧
      ((s.st i).state.takesBand = false →
        Completes (.requestBand f tag selector low high) s fun t =>
          s.OnlyFace t f ∧ s.ShipAnswers t f tag .wrongState [])

/-- MARK_ATTACHED checks the state by its sender, the range of the tag and its uniqueness in the window, and sets the tag
alone (R20, R21). -/
def Obligations.MarkAttachedSetsTheFittingTag : Prop :=
  ∀ (i : StationId) (fitting : Byte) (s : State),
    (s.HostReady →
      ((s.st i).state = .payout ∨ (s.st i).state = .heave ∨ (s.st i).state = .tended ∨ (s.st i).state = .locking ∨
        (s.st i).state = .locked →
        (1 ≤ fitting.toNat → fitting.toNat ≤ 99 → s.tagTaken i fitting = false →
          Completes (.markAttached (.host i) fitting) s fun t =>
            s.OnlyStationAndPort t i ∧ s.Answers t 1 .ok [] ∧ t.st i = { s.st i with fittingTag := some fitting }) ∧
        (1 ≤ fitting.toNat → fitting.toNat ≤ 99 → s.tagTaken i fitting = true →
          Completes (.markAttached (.host i) fitting) s fun t => s.Refuses t 1 .duplicateTag) ∧
        (fitting.toNat = 0 ∨ 99 < fitting.toNat →
          Completes (.markAttached (.host i) fitting) s fun t => s.Refuses t 1 .badValue)) ∧
      ((s.st i).state = .stowed ∨ (s.st i).state = .easing ∨ (s.st i).state = .slack ∨ (s.st i).state = .rewind ∨
        (s.st i).state = .fault ∨ (s.st i).state = .halted →
        Completes (.markAttached (.host i) fitting) s fun t => s.Refuses t 1 .wrongState)) ∧
    ∀ (f : Face) (tag : Half) (selector : Byte), s.ShipReady f tag → s.MooringServed f → s.Selects f selector i →
      ((s.st i).state = .payout → 1 ≤ fitting.toNat → fitting.toNat ≤ 99 → s.tagTaken i fitting = false →
        Completes (.markAttached (.ship f tag selector) fitting) s fun t =>
          s.OnlyStationAndFace t i f ∧ s.ShipAnswers t f tag .ok [] ∧
            t.st i = { s.st i with
              fittingTag := some fitting, attn := (s.st i).attn.put .shipChange true }) ∧
      ((s.st i).state = .payout → 1 ≤ fitting.toNat → fitting.toNat ≤ 99 → s.tagTaken i fitting = true →
        Completes (.markAttached (.ship f tag selector) fitting) s fun t =>
          s.OnlyFace t f ∧ s.ShipAnswers t f tag .duplicateTag []) ∧
      ((s.st i).state = .payout → fitting.toNat = 0 ∨ 99 < fitting.toNat →
        Completes (.markAttached (.ship f tag selector) fitting) s fun t =>
          s.OnlyFace t f ∧ s.ShipAnswers t f tag .badValue []) ∧
      ((s.st i).state ≠ .payout →
        Completes (.markAttached (.ship f tag selector) fitting) s fun t =>
          s.OnlyFace t f ∧ s.ShipAnswers t f tag .wrongState [])

/-! ### Line states -/

/-- PAYOUT sends a STOWED line out when the checks of R26 pass: the record takes the vessel tag of the grant and the default
band, and one supervised render segment runs to the target; a target that the payout has already reached ends it at once
with STATE_REACHED. In PAYOUT it replaces the segment by one to a longer target and changes nothing else; a target out of
range or not longer is refused BAD_VALUE. A release claim still standing on a STOWED line falls with its PAYOUT: that it was
taken before is the model's reading of R145, log 13 (R26, R28). -/
def Obligations.PayoutSendsALineOutAndExtendsIt : Prop :=
  ∀ (i : StationId) (target : Half) (s : State), s.HostReady →
    (∀ f : Face, (s.st i).state = .stowed → 1 ≤ target.toNat → target.toNat ≤ 25000 → s.faceOf i = some f →
      s.MooringServed f → (s.face f).erActive = false → (s.st i).monitor.failed = false →
      (s.st i).drive.homeClosed = true → (s.st i).drive.field = .opened →
      Completes (.payout i target) s fun t =>
        s.OnlyStationAndPort t i ∧ s.Answers t 2 .accepted [1] ∧
          { s.st i with releaseClaims := 0 }.MovedTo (t.st i) .payout ∧
          (t.st i).vesselTag = some (s.face f).tag ∧ (t.st i).fittingTag = (s.st i).fittingTag ∧
          (t.st i).band = some ⟨(s.st i).settings.bandLow, (s.st i).settings.bandHigh⟩ ∧
          (t.st i).holds = (s.st i).holds ∧ (s.st i).KeepsClamp (t.st i) ∧ (t.st i).NoOptions ∧
          s.Reports t i [.entered .payout] ∧ (t.st i).drive.nxt = none ∧
          if (s.st i).drive.payout.any (fun p => decide (target.toNat ≤ p)) then
            (t.st i).Emptied .idle ∧ (t.st i).attn = ((s.st i).attn.changed .stowed .payout).put .stateReached true
          else
            (t.st i).Runs ⟨.render, (s.st i).settings.payoutDuty, none, .payoutGe target.toNat, true⟩
                (some (s.st i).settings.stallTime) ∧
              (t.st i).attn = (s.st i).attn.changed .stowed .payout) ∧
    ((s.st i).state = .payout → 1 ≤ target.toNat → target.toNat ≤ 25000 →
      (s.st i).drive.payout.getD 0 < target.toNat → (s.st i).drive.field = .opened →
      Completes (.payout i target) s fun t =>
        s.OnlyStationAndPort t i ∧ s.Answers t 2 .accepted [1] ∧
          t.st i = { s.st i with drive := (t.st i).drive } ∧ (s.st i).KeepsViews (t.st i) ∧
          (s.st i).KeepsClamp (t.st i) ∧ (t.st i).drive.nxt = none ∧
          (t.st i).Runs ⟨.render, (s.st i).settings.payoutDuty, none, .payoutGe target.toNat, true⟩
            (some (s.st i).settings.stallTime)) ∧
    ((s.st i).state = .payout →
      target.toNat = 0 ∨ 25000 < target.toNat ∨ target.toNat ≤ (s.st i).drive.payout.getD 0 →
      Completes (.payout i target) s fun t => s.Refuses t 2 .badValue)

/-- TAKE_UP sends a tagged PAYOUT line to HEAVE with the two take-up segments; a condition that already holds ends its
segment at once, and the answer carries the state at the end of the step, both the model's reading, log 10. A line already
home or at zero goes to FAULT NO_LOAD; that it does so before a tension condition that holds too is the model's order, log 21
(R31 to R34). -/
def Obligations.TakeUpHeavesATaggedLine : Prop :=
  ∀ (i : StationId) (s : State) (b : Band), (s.st i).band = some b → s.HostReady → (s.st i).state = .payout →
    (s.st i).fittingTag ≠ none → (s.st i).monitor.failed = false → (s.st i).drive.field = .opened →
    Completes (.takeUp (.host i)) s fun t =>
      s.OnlyStationAndPort t i ∧ s.Answers t 0 .accepted [(t.st i).state.code] ∧
        (s.st i).KeepsTags (t.st i) ∧ (s.st i).KeepsViews (t.st i) ∧ (s.st i).KeepsClamp (t.st i) ∧
        (t.st i).holds = (s.st i).holds ∧
        ((s.st i).drive.homeClosed = false → (s.st i).drive.payout ≠ some 0 →
          ((s.st i).average.all (fun a => decide (a < b.low)) = true →
            (s.st i).MovedTo (t.st i) .heave ∧ (t.st i).NoOptions ∧
              (t.st i).Runs ⟨.heave, (s.st i).settings.heaveDuty, none, .tensionGe b.low, true⟩
                (some (s.st i).settings.stallTime) ∧
              (t.st i).drive.nxt =
                some ⟨.heave, (s.st i).settings.heaveDuty, none, .tensionGe b.midpoint, false⟩ ∧
              (t.st i).attn = (s.st i).attn.changed .payout .heave ∧ s.Reports t i [.entered .heave]) ∧
          ((s.st i).average.any (fun a => decide (b.low ≤ a) && decide (a < b.midpoint)) = true →
            (s.st i).MovedTo (t.st i) .heave ∧
              (t.st i).Runs ⟨.heave, (s.st i).settings.heaveDuty, none, .tensionGe b.midpoint, false⟩ none ∧
              (t.st i).drive.nxt = none) ∧
          ((s.st i).average.any (fun a => decide (b.low ≤ a) && decide (b.midpoint ≤ a)) = true →
            (t.st i).state = .tended ∧ (t.st i).Emptied .idle ∧ (t.st i).attn.stateReached = true)) ∧
        ((s.st i).drive.homeClosed = true ∨ (s.st i).drive.payout = some 0 →
          (t.st i).state = .fault ∧ (t.st i).fault = some ⟨.noLoad, .heave⟩ ∧ (t.st i).Emptied .idle ∧
            (t.st i).attn.fault = true)

/-- LOCK sends a TENDED line to LOCKING with the clamp ordered CLOSE, and UNLOCK a LOCKING or LOCKED line to TENDED with the
clamp ordered OPEN: the drive is stopped and the tags, the holds and the views of the record stay (R38, R40). A field at the
position ordered stays, one on its way there keeps its deadline, any other travels with a fresh deadline, and a clamp whose
switches already show the position confirms at once; that the answer then carries LOCKED is the model's reading, log
10 (R96, R97). -/
def Obligations.LockAndUnlockOrderTheClamp : Prop :=
  ∀ (i : StationId) (s : State), s.HostReady →
    ((s.st i).state = .tended →
      Completes (.lock i) s fun t =>
        s.OnlyStationAndPort t i ∧ (s.st i).KeepsTags (t.st i) ∧ (s.st i).KeepsViews (t.st i) ∧
          (t.st i).holds = (s.st i).holds ∧ (t.st i).Emptied .idle ∧ (t.st i).NoOptions ∧
          (t.st i).drive.command = some .closed ∧
          if (s.st i).drive.field ≠ .closed ∧ (s.st i).drive.reading = .closedOnly then
            s.Answers t 0 .accepted [5] ∧ (t.st i).state = .locked ∧ (t.st i).drive.field = .closed ∧
              (t.st i).drive.deadline = none ∧ (t.st i).attn.stateReached = true
          else
            s.Answers t 0 .accepted [4] ∧ (s.st i).MovedTo (t.st i) .locking ∧
              (t.st i).attn = (s.st i).attn.changed .tended .locking ∧ s.Reports t i [.entered .locking] ∧
              if (s.st i).drive.field = .closed ∨ (s.st i).drive.field = .closing then
                (t.st i).drive.field = (s.st i).drive.field ∧ (t.st i).drive.deadline = (s.st i).drive.deadline
              else
                (t.st i).drive.field = .closing ∧
                  (t.st i).drive.deadline = some (s.st i).settings.travelLimit) ∧
    ((s.st i).state = .locking ∨ (s.st i).state = .locked →
      Completes (.unlock i) s fun t =>
        s.OnlyStationAndPort t i ∧ s.Answers t 0 .ok [3] ∧ (s.st i).MovedTo (t.st i) .tended ∧
          (s.st i).KeepsTags (t.st i) ∧ (t.st i).holds = (s.st i).holds ∧ (t.st i).Emptied .idle ∧
          (t.st i).NoOptions ∧ (t.st i).drive.command = some .opened ∧
          (t.st i).attn = (s.st i).attn.changed (s.st i).state .tended ∧ s.Reports t i [.entered .tended] ∧
          if (s.st i).drive.field ≠ .opened ∧ (s.st i).drive.reading = .openOnly then
            (t.st i).drive.field = .opened ∧ (t.st i).drive.deadline = none
          else if (s.st i).drive.field = .opened ∨ (s.st i).drive.field = .opening then
            (t.st i).drive.field = (s.st i).drive.field ∧ (t.st i).drive.deadline = (s.st i).drive.deadline
          else
            (t.st i).drive.field = .opening ∧ (t.st i).drive.deadline = some (s.st i).settings.travelLimit)

/-- RELEASE eases a TENDED or LOCKED line that no hold and no running plan bars: with the clamp OPEN it renders at once,
else it waits in its OPENING phase. A tension already below the release threshold sends it straight to SLACK; that the
answer carries the state at the end of the step is the model's reading, log 10. A tagged PAYOUT line goes to SLACK at once
(R43 to R47). -/
def Obligations.ReleaseLetsALineGo : Prop :=
  ∀ (i : StationId) (s : State), s.HostReady → s.inRunningPlan i = false → (s.st i).holds = [] →
    ((s.st i).state = .tended ∨ (s.st i).state = .locked →
      Completes (.release i) s fun t =>
        s.OnlyStationAndPort t i ∧ s.Answers t 0 .accepted [(t.st i).state.code] ∧
          (s.st i).KeepsTags (t.st i) ∧ (s.st i).KeepsViews (t.st i) ∧ (t.st i).holds = [] ∧
          ((s.st i).drive.field = .opened →
            (s.st i).average.all (fun a => decide ((s.st i).settings.releaseThreshold - 1 < a)) = true →
            (s.st i).MovedTo (t.st i) .easing ∧ (t.st i).easingPhase = some .rendering ∧
              (t.st i).easeTimer = some (s.st i).settings.easeLimit ∧ (t.st i).drive.field = .opened ∧
              (t.st i).Runs ⟨.render, (s.st i).settings.easeDuty, none,
                .tensionLe ((s.st i).settings.releaseThreshold - 1), false⟩ none ∧
              (t.st i).attn = (s.st i).attn.changed (s.st i).state .easing ∧ s.Reports t i [.entered .easing]) ∧
          ((s.st i).drive.field = .opened →
            (s.st i).average.any (fun a => decide (a ≤ (s.st i).settings.releaseThreshold - 1)) = true →
            (t.st i).state = .slack ∧ (t.st i).Emptied .free ∧ (t.st i).clearRemembered = some false ∧
              (t.st i).easeTimer = none ∧ (t.st i).easingPhase = none ∧ (t.st i).attn.stateReached = true ∧
              s.Reports t i [.entered .easing, .entered .slack]) ∧
          ((s.st i).drive.field ≠ .opened → (s.st i).drive.field ≠ .opening → (s.st i).drive.reading ≠ .openOnly →
            (s.st i).MovedTo (t.st i) .easing ∧ (t.st i).easingPhase = some .opening ∧
              (t.st i).easeTimer = some (s.st i).settings.easeLimit ∧ (t.st i).drive.field = .opening ∧
              (t.st i).drive.command = some .opened ∧
              (t.st i).drive.deadline = some (s.st i).settings.travelLimit ∧ (t.st i).Emptied .idle) ∧
          ((s.st i).drive.field ≠ .opened → (s.st i).drive.field ≠ .opening → (s.st i).drive.reading = .openOnly →
            (s.st i).average.all (fun a => decide ((s.st i).settings.releaseThreshold - 1 < a)) = true →
            (s.st i).MovedTo (t.st i) .easing ∧ (t.st i).easingPhase = some .rendering ∧
              (t.st i).drive.field = .opened ∧ (t.st i).drive.deadline = none ∧
              (t.st i).drive.command = some .opened ∧
              (t.st i).Runs ⟨.render, (s.st i).settings.easeDuty, none,
                .tensionLe ((s.st i).settings.releaseThreshold - 1), false⟩ none) ∧
          ((s.st i).drive.field = .opening →
            (s.st i).MovedTo (t.st i) .easing ∧ (t.st i).easingPhase = some .opening ∧
              (s.st i).KeepsClamp (t.st i) ∧ (t.st i).Emptied .idle)) ∧
    ((s.st i).state = .payout → (s.st i).fittingTag ≠ none →
      Completes (.release i) s fun t =>
        s.OnlyStationAndPort t i ∧ s.Answers t 0 .accepted [7] ∧ (s.st i).MovedTo (t.st i) .slack ∧
          (s.st i).KeepsTags (t.st i) ∧ (s.st i).KeepsClamp (t.st i) ∧ (t.st i).Emptied .free ∧ (t.st i).holds = [] ∧
          (t.st i).clearRemembered = some false ∧
          (t.st i).attn = ((s.st i).attn.changed .payout .slack).put .stateReached true ∧
          s.Reports t i [.entered .slack])

/-- CANCEL winds an untagged, unheld PAYOUT line back, and MARK_CLEAR a SLACK line whose clamp is OPEN: the line goes to
REWIND with one supervised heave segment ending at home. A line at zero with its home switch open creeps at once, or goes
to FAULT HOME with a home margin of 0; a line already home is STOWED at once. That the answer carries the state at the end of
the step is the model's reading, log 10. With the clamp not OPEN the clear is remembered; that this covers a clamp field
CLOSED or UNKNOWN too is the model's reading, log 22 (R29, R52, R54, R56, R93). -/
def Obligations.CancelAndMarkClearWindALineHome : Prop :=
  ∀ (i : StationId) (c : Instr) (s : State), s.HostReady →
    (c = .cancel i ∧ (s.st i).state = .payout ∧ (s.st i).fittingTag = none ∧ (s.st i).holds = [] ∨
      c = .markClear (.host i) ∧ (s.st i).state = .slack) →
    ((s.st i).drive.field = .opened →
      Completes c s fun t =>
        s.OnlyStationAndPort t i ∧ s.Answers t 0 .accepted [(t.st i).state.code] ∧
          (t.st i).holds = (s.st i).holds ∧ (s.st i).KeepsViews (t.st i) ∧ (s.st i).KeepsClamp (t.st i) ∧
          ((s.st i).drive.homeClosed = false → (s.st i).drive.payout ≠ some 0 →
            (s.st i).MovedTo (t.st i) .rewind ∧ (s.st i).KeepsTags (t.st i) ∧ (t.st i).NoOptions ∧
              (t.st i).Runs ⟨.heave, (s.st i).settings.rewindDuty, none, .homeClosed, true⟩
                (some (s.st i).settings.stallTime) ∧
              (t.st i).attn = (s.st i).attn.changed (s.st i).state .rewind ∧ s.Reports t i [.entered .rewind]) ∧
          ((s.st i).drive.homeClosed = false → (s.st i).drive.payout = some 0 →
            (s.st i).settings.homeMargin ≠ 0 →
            (s.st i).MovedTo (t.st i) .rewind ∧
              (t.st i).Runs ⟨.heave, (s.st i).settings.creepDuty, none, .homeClosed, true⟩
                (some (s.st i).settings.stallTime) ∧
              (t.st i).creepSpent = some ((s.st i).drive.overrun + (s.st i).settings.homeMargin)) ∧
          ((s.st i).drive.homeClosed = false → (s.st i).drive.payout = some 0 →
            (s.st i).settings.homeMargin = 0 →
            (t.st i).state = .fault ∧ (t.st i).fault = some ⟨.home, .rewind⟩ ∧ (t.st i).Emptied .idle) ∧
          ((s.st i).drive.homeClosed = true →
            (t.st i).state = .stowed ∧ (t.st i).vesselTag = none ∧ (t.st i).fittingTag = none ∧
              (t.st i).band = none ∧ (t.st i).Emptied .idle ∧ (t.st i).attn.stateReached = true)) ∧
    (c = .markClear (.host i) → (s.st i).drive.field ≠ .opened →
      Completes c s fun t =>
        s.OnlyStationAndPort t i ∧ s.Answers t 0 .accepted [7] ∧
          t.st i = { s.st i with clearRemembered := some true })

/-- CLEAR_FAULT moves a FAULT line to its target when the target's checks pass: TENDED with the clamp OPEN, LOCKED with the
clamp CLOSED, SLACK with an empty stack and the clamp ordered OPEN, REWIND with the clamp OPEN, which a home switch already
closed ends in STOWED; that the answer then carries STOWED is the model's reading, log 10. A payout at zero with the switch
open creeps, or goes to FAULT HOME with a home margin of 0. Cause and previous state are removed, the FAULT latch stays.
Otherwise the first check that fails gives the status (R152 to R156). -/
def Obligations.ClearFaultMovesTheLineToItsTarget : Prop :=
  ∀ (i : StationId) (s : State), s.HostReady → (s.st i).state = .fault →
    ((s.grantTag i).isSome = true → (s.st i).drive.field = .opened → (s.st i).fittingTag ≠ none →
      (s.st i).monitor.failed = false →
      Completes (.clearFault i 3) s fun t =>
        s.OnlyStationAndPort t i ∧ s.Answers t 1 .ok [3] ∧ (s.st i).MovedTo (t.st i) .tended ∧
          (s.st i).KeepsTags (t.st i) ∧ (t.st i).holds = (s.st i).holds ∧ (t.st i).NoOptions ∧
          (t.st i).Emptied .idle ∧ (t.st i).drive.command = some .opened ∧ (t.st i).drive.field = .opened ∧
          (t.st i).attn = (s.st i).attn.changed .fault .tended ∧ s.Reports t i [.entered .tended]) ∧
    ((s.grantTag i).isSome = true → (s.st i).drive.field = .closed →
      Completes (.clearFault i 5) s fun t =>
        s.OnlyStationAndPort t i ∧ s.Answers t 1 .ok [5] ∧ (s.st i).MovedTo (t.st i) .locked ∧
          (s.st i).KeepsTags (t.st i) ∧ (t.st i).holds = (s.st i).holds ∧ (t.st i).NoOptions ∧
          (t.st i).Emptied .idle ∧ (t.st i).drive.command = some .closed ∧ (t.st i).drive.field = .closed ∧
          (t.st i).attn = (s.st i).attn.changed .fault .locked ∧ s.Reports t i [.entered .locked]) ∧
    ((s.st i).holds = [] →
      Completes (.clearFault i 7) s fun t =>
        s.OnlyStationAndPort t i ∧ s.Answers t 1 .ok [7] ∧ (s.st i).MovedTo (t.st i) .slack ∧
          (s.st i).KeepsTags (t.st i) ∧ (t.st i).holds = [] ∧ (t.st i).fault = none ∧
          (t.st i).clearRemembered = some false ∧ (t.st i).Emptied .free ∧ (t.st i).drive.command = some .opened ∧
          (t.st i).attn = (s.st i).attn.changed .fault .slack ∧ s.Reports t i [.entered .slack] ∧
          ((s.st i).drive.field = .opened → (t.st i).drive.field = .opened) ∧
          ((s.st i).drive.field = .opening → (s.st i).drive.reading ≠ .openOnly →
            (t.st i).drive.field = .opening ∧ (t.st i).drive.deadline = (s.st i).drive.deadline) ∧
          ((s.st i).drive.field ≠ .opened → (s.st i).drive.field ≠ .opening → (s.st i).drive.reading ≠ .openOnly →
            (t.st i).drive.field = .opening ∧ (t.st i).drive.deadline = some (s.st i).settings.travelLimit) ∧
          ((s.st i).drive.reading = .openOnly → (t.st i).drive.field = .opened)) ∧
    ((s.st i).fittingTag = none ∨ (s.st i).fault.map FaultInfo.cause = some .parted → (s.st i).holds = [] →
      (s.st i).drive.field = .opened → (s.st i).drive.homeClosed = false → (s.st i).drive.payout ≠ some 0 →
      Completes (.clearFault i 8) s fun t =>
        s.OnlyStationAndPort t i ∧ s.Answers t 1 .accepted [8] ∧ (s.st i).MovedTo (t.st i) .rewind ∧
          (s.st i).KeepsTags (t.st i) ∧ (t.st i).NoOptions ∧ (t.st i).drive.command = some .opened ∧
          (t.st i).Runs ⟨.heave, (s.st i).settings.rewindDuty, none, .homeClosed, true⟩
            (some (s.st i).settings.stallTime) ∧
          (t.st i).attn = (s.st i).attn.changed .fault .rewind ∧ s.Reports t i [.entered .rewind]) ∧
    ((s.st i).fittingTag = none ∨ (s.st i).fault.map FaultInfo.cause = some .parted → (s.st i).holds = [] →
      (s.st i).drive.field = .opened →
      ((s.st i).drive.homeClosed = true →
        Completes (.clearFault i 8) s fun t =>
          s.OnlyStationAndPort t i ∧ s.Answers t 1 .accepted [0] ∧ (t.st i).state = .stowed ∧
            (t.st i).vesselTag = none ∧ (t.st i).fittingTag = none ∧ (t.st i).band = none ∧
            (t.st i).Emptied .idle ∧ (t.st i).attn.stateReached = true) ∧
      ((s.st i).drive.homeClosed = false → (s.st i).drive.payout = some 0 → (s.st i).settings.homeMargin ≠ 0 →
        Completes (.clearFault i 8) s fun t =>
          s.OnlyStationAndPort t i ∧ s.Answers t 1 .accepted [8] ∧
            (t.st i).Runs ⟨.heave, (s.st i).settings.creepDuty, none, .homeClosed, true⟩
              (some (s.st i).settings.stallTime) ∧
            (t.st i).creepSpent = some ((s.st i).drive.overrun + (s.st i).settings.homeMargin)) ∧
      ((s.st i).drive.homeClosed = false → (s.st i).drive.payout = some 0 → (s.st i).settings.homeMargin = 0 →
        Completes (.clearFault i 8) s fun t =>
          s.OnlyStationAndPort t i ∧ s.Answers t 1 .accepted [9] ∧ (t.st i).state = .fault ∧
            (t.st i).fault = some ⟨.home, .rewind⟩ ∧ (t.st i).Emptied .idle)) ∧
    ((s.st i).fittingTag ≠ none → (s.st i).fault.map FaultInfo.cause ≠ some .parted →
      Completes (.clearFault i 8) s fun t => s.Refuses t 1 .wrongState) ∧
    ((s.st i).fittingTag = none ∨ (s.st i).fault.map FaultInfo.cause = some .parted →
      ((s.st i).holds ≠ [] → Completes (.clearFault i 8) s fun t => s.Refuses t 1 .held) ∧
      ((s.st i).holds = [] → (s.st i).drive.field ≠ .opened →
        Completes (.clearFault i 8) s fun t => s.Refuses t 1 .wrongState)) ∧
    ((s.st i).holds ≠ [] → Completes (.clearFault i 7) s fun t => s.Refuses t 1 .held) ∧
    ((s.grantTag i).isSome = true → (s.st i).drive.field = .opened → (s.st i).fittingTag ≠ none →
      (s.st i).monitor.failed = true → Completes (.clearFault i 3) s fun t => s.Refuses t 1 .sensor) ∧
    ((s.grantTag i).isSome = false ∨ (s.st i).drive.field ≠ .opened ∨ (s.st i).fittingTag = none →
      Completes (.clearFault i 3) s fun t => s.Refuses t 1 .wrongState) ∧
    ((s.grantTag i).isSome = false ∨ (s.st i).drive.field ≠ .closed →
      Completes (.clearFault i 5) s fun t => s.Refuses t 1 .wrongState) ∧
    (∀ target : Byte, target ≠ 3 → target ≠ 5 → target ≠ 7 → target ≠ 8 →
      Completes (.clearFault i target) s fun t => s.Refuses t 1 .badValue)

/-- ADOPT takes a HALTED line over: STOWED with its home switch closed, LOCKED with its clamp CLOSED and TENDED with its
clamp OPEN and its sensor OK in a face out of VACANT, SLACK with its clamp OPEN or UNKNOWN. The record takes the vessel
tag of such a grant, the fitting tag and the band named (R160 to R164). -/
def Obligations.AdoptTakesAHaltedLineOver : Prop :=
  ∀ (i : StationId) (fitting : Option Byte) (band : Option (Half × Half)) (presence tag : Byte) (low high : Half)
    (s : State), s.HostReady → (s.st i).state = .halted →
    presence = (if fitting.isSome then 1 else 0) + (if band.isSome then 2 else 0) →
    (∀ g, fitting = some g → tag = g ∧ 1 ≤ g.toNat ∧ g.toNat ≤ 99 ∧ s.tagTaken i g = false) →
    (∀ b, band = some b → (low, high) = b ∧ 0 < low.toNat ∧ low.toNat + 50 ≤ high.toNat ∧ high.toNat ≤ 10000) →
    (fitting = none → band = none → (s.st i).drive.homeClosed = true →
      Completes (.adopt i 0 presence tag low high) s fun t =>
        s.OnlyStationAndPort t i ∧ s.Answers t 7 .ok [0] ∧ (s.st i).MovedTo (t.st i) .stowed ∧
          (t.st i).vesselTag = none ∧ (t.st i).fittingTag = none ∧ (t.st i).band = none ∧ (t.st i).NoOptions ∧
          (t.st i).Emptied .idle ∧ (t.st i).drive.command = some .opened ∧
          (t.st i).attn = (s.st i).attn.changed .halted .stowed) ∧
    ((s.grantTag i).isSome = true → (s.st i).drive.field = .closed →
      Completes (.adopt i 5 presence tag low high) s fun t =>
        s.OnlyStationAndPort t i ∧ s.Answers t 7 .ok [5] ∧ (s.st i).MovedTo (t.st i) .locked ∧
          (t.st i).vesselTag = s.grantTag i ∧ (t.st i).fittingTag = fitting ∧
          (t.st i).band = (band.map fun b => Band.mk b.1.toNat b.2.toNat).or (s.st i).band ∧ (t.st i).NoOptions ∧
          (t.st i).Emptied .idle ∧ (t.st i).drive.command = some .closed ∧ (t.st i).drive.field = .closed ∧
          (t.st i).attn = (s.st i).attn.changed .halted .locked) ∧
    ((s.grantTag i).isSome = true → (s.st i).drive.field = .opened → (s.st i).monitor.failed = false →
      Completes (.adopt i 3 presence tag low high) s fun t =>
        s.OnlyStationAndPort t i ∧ s.Answers t 7 .ok [3] ∧ (s.st i).MovedTo (t.st i) .tended ∧
          (t.st i).vesselTag = s.grantTag i ∧ (t.st i).fittingTag = fitting ∧
          (t.st i).band = (band.map fun b => Band.mk b.1.toNat b.2.toNat).or (s.st i).band ∧ (t.st i).NoOptions ∧
          (t.st i).Emptied .idle ∧ (t.st i).drive.command = some .opened ∧ (t.st i).drive.field = .opened ∧
          (t.st i).attn = (s.st i).attn.changed .halted .tended) ∧
    ((s.st i).drive.field = .opened ∨ (s.st i).drive.field = .unknown →
      Completes (.adopt i 7 presence tag low high) s fun t =>
        s.OnlyStationAndPort t i ∧ s.Answers t 7 .ok [7] ∧ (s.st i).MovedTo (t.st i) .slack ∧
          (t.st i).vesselTag = s.grantTag i ∧ (t.st i).fittingTag = fitting ∧
          (t.st i).band = (band.map fun b => Band.mk b.1.toNat b.2.toNat).or (s.st i).band ∧
          (t.st i).clearRemembered = some false ∧ (t.st i).Emptied .free ∧ (t.st i).drive.command = some .opened ∧
          ((s.st i).drive.field = .unknown → (s.st i).drive.reading ≠ .openOnly →
            (t.st i).drive.field = .opening ∧ (t.st i).drive.deadline = some (s.st i).settings.travelLimit) ∧
          (t.st i).attn = (s.st i).attn.changed .halted .slack)

/-- ADOPT of a HALTED line is refused by the first check that fails: BAD_VALUE for another target, for presence marks beyond
the two, for a named tag outside 1 to 99 or a named band that is not valid, and for a tag or a band under STOWED;
WRONG_STATE for the home switch, the grant or the clamp field the target needs; SENSOR under TENDED; DUPLICATE_TAG last. The
place of the presence marks in that order is the model's reading, log 20 (R160 to R164). -/
def Obligations.AnAdoptionIsRefusedByTheFirstCheckThatFails : Prop :=
  ∀ (i : StationId) (target presence tag : Byte) (low high : Half) (s : State), s.HostReady →
    (s.st i).state = .halted →
    ((target ≠ 0 → target ≠ 3 → target ≠ 5 → target ≠ 7 →
      Completes (.adopt i target presence tag low high) s fun t => s.Refuses t 7 .badValue) ∧
    (4 ≤ presence.toNat ∨ presence.getLsbD 0 = true ∧ (tag.toNat = 0 ∨ 99 < tag.toNat) ∨
        presence.getLsbD 1 = true ∧ ¬(0 < low.toNat ∧ low.toNat + 50 ≤ high.toNat ∧ high.toNat ≤ 10000) →
      Completes (.adopt i target presence tag low high) s fun t => s.Refuses t 7 .badValue)) ∧
    (presence.toNat < 4 → (presence.getLsbD 0 = true → 1 ≤ tag.toNat ∧ tag.toNat ≤ 99) →
      (presence.getLsbD 1 = true → 0 < low.toNat ∧ low.toNat + 50 ≤ high.toNat ∧ high.toNat ≤ 10000) →
      (presence ≠ 0 → Completes (.adopt i 0 presence tag low high) s fun t => s.Refuses t 7 .badValue) ∧
      (presence = 0 → (s.st i).drive.homeClosed = false →
        Completes (.adopt i 0 presence tag low high) s fun t => s.Refuses t 7 .wrongState) ∧
      ((s.grantTag i).isSome = false ∨ (s.st i).drive.field ≠ .closed →
        Completes (.adopt i 5 presence tag low high) s fun t => s.Refuses t 7 .wrongState) ∧
      ((s.grantTag i).isSome = false ∨ (s.st i).drive.field ≠ .opened →
        Completes (.adopt i 3 presence tag low high) s fun t => s.Refuses t 7 .wrongState) ∧
      ((s.grantTag i).isSome = true → (s.st i).drive.field = .opened → (s.st i).monitor.failed = true →
        Completes (.adopt i 3 presence tag low high) s fun t => s.Refuses t 7 .sensor) ∧
      ((s.st i).drive.field ≠ .opened → (s.st i).drive.field ≠ .unknown →
        Completes (.adopt i 7 presence tag low high) s fun t => s.Refuses t 7 .wrongState) ∧
      (presence.getLsbD 0 = true → s.tagTaken i tag = true →
        ((s.grantTag i).isSome = true → (s.st i).drive.field = .closed →
          Completes (.adopt i 5 presence tag low high) s fun t => s.Refuses t 7 .duplicateTag) ∧
        ((s.grantTag i).isSome = true → (s.st i).drive.field = .opened → (s.st i).monitor.failed = false →
          Completes (.adopt i 3 presence tag low high) s fun t => s.Refuses t 7 .duplicateTag) ∧
        ((s.st i).drive.field = .opened ∨ (s.st i).drive.field = .unknown →
          Completes (.adopt i 7 presence tag low high) s fun t => s.Refuses t 7 .duplicateTag)))

/-- A line request in a state its rule does not accept is refused WRONG_STATE, and the later checks refuse in the order the
rules list them; a refused request leaves everything but the port as it was. That ADOPT looks at the state before the
presence marks is the model's reading, log 20 (R25, Table 2-3, R29, R31, R43, R152, R160). -/
def Obligations.LineRequestsAreRefusedInTheirOrder : Prop :=
  ∀ (i : StationId) (target : Half) (b p g : Byte) (low high : Half) (s : State), s.HostReady →
    ((s.st i).state ≠ .stowed → (s.st i).state ≠ .payout →
      Completes (.payout i target) s fun t => s.Refuses t 2 .wrongState) ∧
    ((s.st i).state = .stowed →
      (target.toNat = 0 ∨ 25000 < target.toNat →
        Completes (.payout i target) s fun t => s.Refuses t 2 .badValue) ∧
      (1 ≤ target.toNat → target.toNat ≤ 25000 →
        ((∀ f, s.faceOf i = some f → ¬s.MooringServed f) →
          Completes (.payout i target) s fun t => s.Refuses t 2 .wrongState) ∧
        ∀ f, s.faceOf i = some f → s.MooringServed f →
          ((s.face f).erActive = true → Completes (.payout i target) s fun t => s.Refuses t 2 .emergency) ∧
          ((s.face f).erActive = false → (s.st i).monitor.failed = true →
            Completes (.payout i target) s fun t => s.Refuses t 2 .sensor) ∧
          ((s.face f).erActive = false → (s.st i).monitor.failed = false →
            (s.st i).drive.homeClosed = false ∨ (s.st i).drive.field ≠ .opened →
            Completes (.payout i target) s fun t => s.Refuses t 2 .wrongState))) ∧
    ((s.st i).state ≠ .payout ∨ (s.st i).fittingTag = none →
      Completes (.takeUp (.host i)) s fun t => s.Refuses t 0 .wrongState) ∧
    ((s.st i).state = .payout → (s.st i).fittingTag ≠ none → (s.st i).monitor.failed = true →
      Completes (.takeUp (.host i)) s fun t => s.Refuses t 0 .sensor) ∧
    ((s.st i).state ≠ .tended → Completes (.lock i) s fun t => s.Refuses t 0 .wrongState) ∧
    ((s.st i).state ≠ .locking → (s.st i).state ≠ .locked →
      Completes (.unlock i) s fun t => s.Refuses t 0 .wrongState) ∧
    ((s.st i).state ≠ .payout → (s.st i).state ≠ .tended → (s.st i).state ≠ .locked →
      Completes (.release i) s fun t => s.Refuses t 0 .wrongState) ∧
    ((s.st i).state = .tended ∨ (s.st i).state = .locked ∨ (s.st i).state = .payout →
      (s.inRunningPlan i = true → Completes (.release i) s fun t => s.Refuses t 0 .inPlan) ∧
      (s.inRunningPlan i = false → (s.st i).holds ≠ [] →
        Completes (.release i) s fun t => s.Refuses t 0 .held)) ∧
    ((s.st i).state = .payout → s.inRunningPlan i = false → (s.st i).holds = [] → (s.st i).fittingTag = none →
      Completes (.release i) s fun t => s.Refuses t 0 .wrongState) ∧
    ((s.st i).state ≠ .payout ∨ (s.st i).fittingTag ≠ none →
      Completes (.cancel i) s fun t => s.Refuses t 0 .wrongState) ∧
    ((s.st i).state = .payout → (s.st i).fittingTag = none → (s.st i).holds ≠ [] →
      Completes (.cancel i) s fun t => s.Refuses t 0 .held) ∧
    ((s.st i).state ≠ .slack → Completes (.markClear (.host i)) s fun t => s.Refuses t 0 .wrongState) ∧
    ((s.st i).state ≠ .fault → Completes (.clearFault i b) s fun t => s.Refuses t 1 .wrongState) ∧
    ((s.st i).state ≠ .halted → Completes (.adopt i b p g low high) s fun t => s.Refuses t 7 .wrongState)

/-! ### Berth faces -/

/-- SET_WINDOW makes its checks in the order of R106, and an accepted one replaces the window, empties the plan with its
cursor at 0 and its sequencer IDLE, and keeps every record's line, the grant, the settings and the link flags. A base above
the limit, a limit above 23 and a window of more than 16 stations are refused BAD_VALUE, but for the two bytes 0xFF of a
window of none (R106, R107). -/
def Obligations.SetWindowReplacesTheWindowAndEmptiesThePlan : Prop :=
  (∀ (f : Face) (base limit : Byte) (s : State), s.HostReady → ¬(base = 0xFF ∧ limit = 0xFF) →
    limit.toNat < base.toNat ∨ 23 < limit.toNat ∨ 16 < limit.toNat - base.toNat + 1 →
    Completes (.setWindow f base limit) s fun t => s.Refuses t 2 .badValue) ∧
  ∀ (f : Face) (base limit : Byte) (w : Option Window) (s : State), s.HostReady →
    (base = 0xFF ∧ limit = 0xFF ∧ w = none ∨
      ∃ x : Window, w = some x ∧ x.Valid ∧ base = natByte x.base.val ∧ limit = natByte x.limit.val) →
    ((s.face f).grant = .vacant →
      s.windowAll (s.face f).window Station.atRest = true → s.windowAll w Station.atRest = true →
      (∀ i, inWindow w i = true → inWindow (s.face (otherFace f)).window i = false) →
      Completes (.setWindow f base limit) s fun t =>
        s.Answers t 2 .ok [] ∧ s.KeepsFaces t (fun g => decide (g = f)) ∧ s.KeepsDevice t ∧
          (∀ i, t.st i = { s.st i with toSequencer := (t.st i).toSequencer }) ∧
          t.face f = { s.face f with window := w, sequencer := (t.face f).sequencer } ∧
          (t.seq f).entries = [] ∧ (t.seq f).cursor = 0 ∧ (t.seq f).state = .idle ∧
          (t.seq f).width = (s.seq f).width ∧ (t.seq f).timeout = (s.seq f).timeout) ∧
    ((s.face f).grant ≠ .vacant → Completes (.setWindow f base limit) s fun t => s.Refuses t 2 .wrongState) ∧
    ((s.face f).grant = .vacant →
      (s.windowAll (s.face f).window Station.atRest = false ∨ s.windowAll w Station.atRest = false) →
      Completes (.setWindow f base limit) s fun t => s.Refuses t 2 .wrongState) ∧
    ((s.face f).grant = .vacant →
      s.windowAll (s.face f).window Station.atRest = true → s.windowAll w Station.atRest = true →
      (∃ i, inWindow w i = true ∧ inWindow (s.face (otherFace f)).window i = true) →
      Completes (.setWindow f base limit) s fun t => s.Refuses t 2 .badValue)

/-- ARRIVE, SECURE and VACATE change the grant when their checks pass and change no record's line; SECURE answers with the
secured count, whether it is accepted or not. What an emergency action has left on the window and on the plan falls with an
accepted VACATE: the model's reading, log 13 (R108, R109, R110). -/
def Obligations.ArriveSecureAndVacateChangeTheGrant : Prop :=
  ∀ (f : Face) (tag : Half) (s : State), s.HostReady →
    ((s.face f).grant = .vacant → tag ≠ 0 → tag ≠ (s.face (otherFace f)).tag → (s.face f).window ≠ none →
      (s.face f).erActive = false → s.windowAll (s.face f).window Station.atRest = true →
      Completes (.arrive f tag) s fun t =>
        s.OnlyFaceAndPort t f ∧ s.Answers t 2 .ok [] ∧
          t.face f = { s.face f with grant := .approach, tag := tag }) ∧
    ((s.face f).grant = .vacant → tag ≠ 0 → tag ≠ (s.face (otherFace f)).tag → (s.face f).window ≠ none →
      (s.face f).erActive = true → Completes (.arrive f tag) s fun t => s.Refuses t 2 .emergency) ∧
    ((s.face f).grant ≠ .vacant → Completes (.arrive f tag) s fun t => s.Refuses t 2 .wrongState) ∧
    ((s.face f).grant = .vacant → tag = 0 ∨ tag = (s.face (otherFace f)).tag →
      Completes (.arrive f tag) s fun t => s.Refuses t 2 .badValue) ∧
    ((s.face f).grant = .vacant → tag ≠ 0 → tag ≠ (s.face (otherFace f)).tag → (s.face f).window = none →
      Completes (.arrive f tag) s fun t => s.Refuses t 2 .wrongState) ∧
    ((s.face f).grant = .vacant → tag ≠ 0 → tag ≠ (s.face (otherFace f)).tag → (s.face f).window ≠ none →
      (s.face f).erActive = false → s.windowAll (s.face f).window Station.atRest = false →
      Completes (.arrive f tag) s fun t => s.Refuses t 2 .notStowed) ∧
    ((s.face f).grant = .approach → (s.face f).settings.minimumLines ≤ s.securedCount f →
      Completes (.secure f) s fun t =>
        s.OnlyFaceAndPort t f ∧ s.Answers t 0 .ok [natByte (s.securedCount f)] ∧
          t.face f = { s.face f with grant := .moored }) ∧
    ((s.face f).grant ≠ .approach ∨ s.securedCount f < (s.face f).settings.minimumLines →
      Completes (.secure f) s fun t => s.OnlyPort t ∧ s.Answers t 0 .wrongState [natByte (s.securedCount f)]) ∧
    ((s.face f).grant = .approach ∨ (s.face f).grant = .cleared →
      (s.windowAll (s.face f).window (fun c => decide (c.state = .stowed)) = true →
        Completes (.vacate f) s fun t =>
          s.Answers t 0 .ok [] ∧ s.KeepsFaces t (fun g => decide (g = f)) ∧ s.KeepsDevice t ∧
            (t.face f).grant = .vacant ∧ (t.face f).tag = 0 ∧ (t.face f).window = (s.face f).window ∧
            (t.face f).settings = (s.face f).settings ∧ (t.face f).link = (s.face f).link ∧
            (t.face f).attn = (s.face f).attn ∧ (t.face f).erActive = (s.face f).erActive ∧
            ((s.face f).planReports = 0 → t.seq f = s.seq f) ∧
            ∀ i, t.st i = { s.st i with
              releaseClaims := (t.st i).releaseClaims, toSequencer := (t.st i).toSequencer }) ∧
      (s.windowAll (s.face f).window (fun c => decide (c.state = .stowed)) = false →
        Completes (.vacate f) s fun t => s.Refuses t 0 .notStowed)) ∧
    ((s.face f).grant = .vacant ∨ (s.face f).grant = .moored ∨ (s.face f).grant = .departing →
      Completes (.vacate f) s fun t => s.Refuses t 0 .wrongState)

/-! ### Settings -/

/-- GET_SETTING of a station or face item answers with the value in force. SET_SETTING stores a value in range, in the state
and with the pair its item asks for, answers with it and keeps every other item and everything else of the part but what a
calibration change empties; a value equal to the one in force changes nothing. Otherwise the first check that fails gives the
status: an unknown item, the device scope, another scope or a value out of range BAD_VALUE; a calibration item outside STOWED
and HALTED, or a link item outside VACANT, WRONG_STATE; a pair out of order BAD_VALUE (R80, R114, R181, R182, Table 12-6). -/
def Obligations.SettingsAreStoredAndRead : Prop :=
  ∀ (i : StationId) (f : Face) (item : Byte) (value : Half) (s : State), s.HostReady →
    (∀ k number low high, (k, number, low, high) ∈ stationItemTable → item.toNat = number →
      Completes (.getSetting (.station i) item) s (fun t =>
        s.OnlyPort t ∧ s.Answers t 2 .ok ([0, item] ++ natBytes ((s.st i).settings.get k))) ∧
      (low ≤ value.toNat → value.toNat ≤ high → stationItemOpen number (s.st i).state →
        stationPairKept (s.st i).settings number value.toNat →
        Completes (.setSetting (.station i) item value) s fun t =>
          s.OnlyStationAndPort t i ∧ s.Answers t 4 .ok ([0, item] ++ halfBytes value) ∧
            (t.st i).settings.get k = value.toNat ∧
            (∀ j, j ≠ k → (t.st i).settings.get j = (s.st i).settings.get j) ∧
            t.st i = { s.st i with settings := (t.st i).settings, monitor := (t.st i).monitor } ∧
            ((s.st i).settings.get k = value.toNat → t.st i = s.st i) ∧
            (number < 0x11 ∨ 0x14 < number → (t.st i).monitor = (s.st i).monitor) ∧
            (0x11 ≤ number → number ≤ 0x14 → (s.st i).settings.get k ≠ value.toNat →
              (t.st i).monitor = { (s.st i).monitor with
                samples := [], kept := if (s.st i).monitor.failed then [] else (s.st i).monitor.kept })) ∧
      (value.toNat < low ∨ high < value.toNat →
        Completes (.setSetting (.station i) item value) s fun t => s.Refuses t 4 .badValue) ∧
      (low ≤ value.toNat → value.toNat ≤ high →
        (¬stationItemOpen number (s.st i).state →
          Completes (.setSetting (.station i) item value) s fun t => s.Refuses t 4 .wrongState) ∧
        (stationItemOpen number (s.st i).state → ¬stationPairKept (s.st i).settings number value.toNat →
          Completes (.setSetting (.station i) item value) s fun t => s.Refuses t 4 .badValue))) ∧
    (∀ k number low high, (k, number, low, high) ∈ faceItemTable → item.toNat = number →
      Completes (.getSetting (.face f) item) s (fun t =>
        s.OnlyPort t ∧ s.Answers t 2 .ok ([1, item] ++ natBytes ((s.face f).settings.get k))) ∧
      (low ≤ value.toNat → value.toNat ≤ high → faceItemOpen number (s.face f).grant →
        facePairKept (s.face f).settings number value.toNat →
        Completes (.setSetting (.face f) item value) s fun t =>
          s.OnlyFaceAndPort t f ∧ s.Answers t 4 .ok ([1, item] ++ halfBytes value) ∧
            (t.face f).settings.get k = value.toNat ∧
            (∀ j, j ≠ k → (t.face f).settings.get j = (s.face f).settings.get j) ∧
            t.face f = { s.face f with
              settings := (t.face f).settings
              link := { (s.face f).link with earlier := (t.face f).link.earlier } } ∧
            ((s.face f).settings.get k = value.toNat → t.face f = s.face f)) ∧
      (value.toNat < low ∨ high < value.toNat →
        Completes (.setSetting (.face f) item value) s fun t => s.Refuses t 4 .badValue) ∧
      (low ≤ value.toNat → value.toNat ≤ high →
        (¬faceItemOpen number (s.face f).grant →
          Completes (.setSetting (.face f) item value) s fun t => s.Refuses t 4 .wrongState) ∧
        (faceItemOpen number (s.face f).grant → ¬facePairKept (s.face f).settings number value.toNat →
          Completes (.setSetting (.face f) item value) s fun t => s.Refuses t 4 .badValue))) ∧
    ((∀ r ∈ stationItemTable, r.2.1 ≠ item.toNat) →
      Completes (.setSetting (.station i) item value) s (fun t => s.Refuses t 4 .badValue) ∧
      Completes (.getSetting (.station i) item) s fun t => s.Refuses t 2 .badValue) ∧
    ((∀ r ∈ faceItemTable, r.2.1 ≠ item.toNat) →
      Completes (.setSetting (.face f) item value) s (fun t => s.Refuses t 4 .badValue) ∧
      Completes (.getSetting (.face f) item) s fun t => s.Refuses t 2 .badValue) ∧
    Completes (.setSetting .device item value) s (fun t => s.Refuses t 4 .badValue) ∧
    Completes (.getSetting .device item) s (fun t => s.Refuses t 2 .badValue) ∧
    ∀ scope target : Byte,
      Completes (.setSetting (.other scope target) item value) s (fun t => s.Refuses t 4 .badValue) ∧
      Completes (.getSetting (.other scope target) item) s fun t => s.Refuses t 2 .badValue

/-! ### Departure plans -/

/-- SET_PLAN writes the list with every entry WAITING, the width and the step timeout, and leaves the sequencer IDLE with
its cursor at 0, when its five checks pass; no return claim of an abort is outstanding here. A RUNNING or PAUSED sequencer
refuses it WRONG_STATE, a face without window too, a number out of range, a station outside the window or a station listed
twice BAD_VALUE (R121). -/
def Obligations.SetPlanWritesThePlan : Prop :=
  ∀ (f : Face) (width : Byte) (timeout : Half) (list : List StationId) (bytes : List Byte) (s : State), s.HostReady →
    ((s.seq f).active = false → (s.seq f).returnsOwed = [] → (s.seq f).startsOwed = [] →
      (s.seq f).walkOwed = false → (s.face f).window ≠ none → list ≠ [] → list.length ≤ 16 → list.Nodup →
      (∀ i ∈ list, inWindow (s.face f).window i = true) → bytes = list.map (fun i => natByte i.val) →
      1 ≤ width.toNat → width.toNat ≤ 4 → 10 ≤ timeout.toNat → timeout.toNat ≤ 600 →
      Completes (.setPlan f width timeout bytes) s fun t =>
        s.OnlyFaceAndPort t f ∧ s.Answers t (3 + list.length) .ok [] ∧
          t.face f = { s.face f with sequencer := t.seq f } ∧
          (t.seq f).entries = list.map (fun i => PlanEntry.mk i .waiting none false) ∧
          (t.seq f).width = width.toNat ∧ (t.seq f).timeout = timeout.toNat ∧ (t.seq f).state = .idle ∧
          (t.seq f).cursor = 0) ∧
    ((s.seq f).active = true ∨ (s.face f).window = none →
      Completes (.setPlan f width timeout bytes) s fun t => s.Refuses t (3 + bytes.length) .wrongState) ∧
    ((s.seq f).active = false → (s.face f).window ≠ none →
      (bytes = [] ∨ 16 < bytes.length ∨ width.toNat = 0 ∨ 4 < width.toNat ∨ timeout.toNat < 10 ∨ 600 < timeout.toNat ∨
        (∃ b ∈ bytes, ∀ i : StationId, i.val = b.toNat → inWindow (s.face f).window i = false) ∨ ¬bytes.Nodup) →
      Completes (.setPlan f width timeout bytes) s fun t => s.Refuses t (3 + bytes.length) .badValue)

/-- DEPART in MOORED with at least one entry resets every entry to WAITING, sets the cursor to 0, the sequencer RUNNING and
the grant DEPARTING, and owes the first walk claim; the answer is ACCEPTED, before any claim of the walk. Where every line
listed is STOWED or REWIND the walk skips them all and the plan is complete at once: DONE, the grant CLEARED, PLAN_DONE. In any
other grant state, and with an empty plan, it is refused WRONG_STATE. That an accepted DEPART takes an emergency report that
still stands is the model's reading, log 13 (R111, R123, R125, R131). -/
def Obligations.DepartStartsThePlan : Prop :=
  ∀ (f : Face) (s : State), s.HostReady →
    ((s.face f).grant = .moored → (s.seq f).entries ≠ [] → (s.seq f).active = false → (s.seq f).returnsOwed = [] →
      (s.seq f).startsOwed = [] → (s.seq f).walkOwed = false → 1 ≤ (s.seq f).width →
      ((∃ e ∈ (s.seq f).entries, (s.st e.station).state ≠ .stowed ∧ (s.st e.station).state ≠ .rewind) →
        Completes (.depart f) s fun t =>
          s.Answers t 0 .accepted [] ∧ s.KeepsFaces t (fun g => decide (g = f)) ∧ s.KeepsDevice t ∧
            (∀ i, t.st i = { s.st i with toSequencer := (t.st i).toSequencer }) ∧
            t.face f = { s.face f with grant := .departing, planReports := 0, sequencer := t.seq f } ∧
            (t.seq f).entries =
              (s.seq f).entries.map (fun e => PlanEntry.mk e.station .waiting none false) ∧
            (t.seq f).cursor = 0 ∧ (t.seq f).state = .running ∧ (t.seq f).walkOwed = true ∧
            (t.seq f).width = (s.seq f).width ∧ (t.seq f).timeout = (s.seq f).timeout) ∧
      ((∀ e ∈ (s.seq f).entries, (s.st e.station).state = .stowed ∨ (s.st e.station).state = .rewind) →
        ((s.seq f).entries.map PlanEntry.station).Nodup →
        Completes (.depart f) s fun t =>
          s.Answers t 0 .accepted [] ∧ s.KeepsFaces t (fun g => decide (g = f)) ∧ s.KeepsDevice t ∧
            (∀ i, t.st i = { s.st i with toSequencer := (t.st i).toSequencer }) ∧
            t.face f = { s.face f with
              grant := .cleared, planReports := 0, sequencer := t.seq f
              attn := (s.face f).attn.put .planDone true } ∧
            (t.seq f).entries =
              (s.seq f).entries.map (fun e => PlanEntry.mk e.station .skipped none false) ∧
            (t.seq f).cursor = (s.seq f).entries.length ∧ (t.seq f).state = .done ∧ (t.seq f).walkOwed = false ∧
            (t.seq f).width = (s.seq f).width ∧ (t.seq f).timeout = (s.seq f).timeout)) ∧
    ((s.face f).grant ≠ .moored ∨ (s.seq f).entries = [] →
      Completes (.depart f) s fun t => s.Refuses t 0 .wrongState)

/-- PAUSE of a RUNNING sequencer that owes no claim makes it PAUSED with reason HOST and latches PLAN_PAUSED; RESUME of a
PAUSED one makes it RUNNING, owes a start claim to each RETURNED entry, and walks when the plan is not complete, and a
complete plan ends DONE with PLAN_DONE and a DEPARTING grant CLEARED; ABORT_DEPART makes a RUNNING or PAUSED sequencer IDLE,
returns a DEPARTING grant to MOORED, removes the step timers and owes a return claim to each EASING entry. In other states
each is refused WRONG_STATE (R131, R132, R134, R135). -/
def Obligations.PauseResumeAndAbortControlThePlan : Prop :=
  ∀ (f : Face) (s : State), s.HostReady →
    ((s.seq f).state = .running → (s.seq f).walkOwed = false → (s.seq f).startsOwed = [] →
      (s.seq f).returnsOwed = [] →
      Completes (.pause f) s fun t =>
        s.OnlyFaceAndPort t f ∧ s.Answers t 0 .ok [] ∧
          t.face f = { s.face f with
            sequencer := { s.seq f with state := .paused .host }, attn := (s.face f).attn.put .planPaused true }) ∧
    ((s.seq f).active = true → (s.seq f).walkOwed = false → (s.seq f).startsOwed = [] →
      (s.seq f).returnsOwed = [] →
      Completes (.abortDepart f) s fun t =>
        s.Answers t 0 .ok [] ∧ s.KeepsFaces t (fun g => decide (g = f)) ∧ s.KeepsDevice t ∧
          (∀ i, t.st i = { s.st i with toSequencer := (t.st i).toSequencer }) ∧
          (t.face f).grant = (if (s.face f).grant = .departing then .moored else (s.face f).grant) ∧
          t.face f = { s.face f with grant := (t.face f).grant, sequencer := t.seq f } ∧
          (t.seq f).state = .idle ∧ (t.seq f).cursor = (s.seq f).cursor ∧ (t.seq f).width = (s.seq f).width ∧
          (t.seq f).entries = (s.seq f).entries.map (fun e => { e with timer := none }) ∧
          (t.seq f).returnsOwed =
            ((s.seq f).entries.filter fun e => decide (e.status = .easing)).map PlanEntry.station) ∧
    ((s.seq f).state ≠ .running → Completes (.pause f) s fun t => s.Refuses t 0 .wrongState) ∧
    ((s.seq f).active = false → Completes (.abortDepart f) s fun t => s.Refuses t 0 .wrongState) ∧
    (∀ reason, (s.seq f).state = .paused reason →
      ((s.seq f).complete = false →
        Completes (.resume f) s fun t =>
          s.OnlyFaceAndPort t f ∧ s.Answers t 0 .ok [] ∧ (t.seq f).state = .running ∧
            (t.face f).grant = (s.face f).grant ∧ (t.face f).attn = (s.face f).attn ∧
            (t.seq f).entries = (s.seq f).entries ∧ (t.seq f).cursor = (s.seq f).cursor ∧
            (t.seq f).startsOwed =
              ((s.seq f).entries.filter fun e => decide (e.status = .returned)).map PlanEntry.station ∧
            ((t.seq f).walkOwed = true ↔
              (s.seq f).inProgress < (s.seq f).width ∧ (s.seq f).cursor < (s.seq f).entries.length)) ∧
      ((s.seq f).complete = true →
        Completes (.resume f) s fun t =>
          s.Answers t 0 .ok [] ∧ (t.seq f).state = .done ∧ (t.face f).attn.planDone = true ∧
            (t.seq f).entries = (s.seq f).entries ∧
            (t.face f).grant = (if (s.face f).grant = .departing then .cleared else (s.face f).grant))) ∧
    ((s.seq f).active = false ∨ (s.seq f).state = .running →
      Completes (.resume f) s fun t => s.Refuses t 0 .wrongState)

/-- A walk claim that is owed, with no start claim owed before it, is decided by the record it finds, in the order of Table
6-4: the entry at the cursor takes its status, the cursor advances past every status but WAITING and BLOCKED, a started
entry's step timer starts, and a FAILED one pauses the sequencer. The other entries stay as they were. A skipped last entry
completes the plan when every other is finished: DONE, a DEPARTING grant CLEARED, PLAN_DONE. A claim not owed changes nothing,
and one behind start claims waits for them; that the order holds across the two kinds of claim is the model's reading, log 9
(R125, R130, R131, R133, R134). -/
def Obligations.TheWalkClaimFollowsTheRecordItFinds : Prop :=
  ∀ (f : Face) (i : StationId) (s : State), s.inReset = false →
    ((s.seq f).walkOwed = false ∨ (s.seq f).startsOwed ≠ [] → Completes (.walkClaim f) s fun t => t = s) ∧
    ((s.seq f).walkOwed = true → (s.seq f).startsOwed = [] →
      (s.seq f).canLook = false ∨ (s.seq f).cursorStation = none →
      Completes (.walkClaim f) s fun t =>
        s.OnlyFace t f ∧ t.face f = { s.face f with sequencer := { s.seq f with walkOwed := false } }) ∧
    ((s.seq f).walkOwed = true → (s.seq f).startsOwed = [] →
      (s.seq f).canLook = true → (s.seq f).WalkLaw → (s.seq f).cursorStation = some i →
      Completes (.walkClaim f) s fun t =>
        s.KeepsStations t (fun j => decide (j = i) || inWindow (s.face f).window j) ∧
        s.KeepsFaces t (fun g => decide (g = f)) ∧ s.KeepsDevice t ∧ t.shore = s.shore ∧
        (∀ e ∈ (s.seq f).entries, e.station ≠ i → e ∈ (t.seq f).entries) ∧
        ((s.st i).state = .fault ∨ (s.st i).state = .halted →
          (t.seq f).find i = ((s.seq f).find i).map (fun e => { e with status := .failed }) ∧
            (t.seq f).cursor = (s.seq f).cursor + 1 ∧ (t.seq f).state = .paused .failed ∧
            (t.face f).attn.planPaused = true ∧ (t.face f).grant = (s.face f).grant ∧
            (t.st i).state = (s.st i).state) ∧
        ((s.st i).state = .stowed ∨ (s.st i).state = .rewind →
          (t.seq f).find i = ((s.seq f).find i).map (fun e => { e with status := .skipped }) ∧
            (t.seq f).cursor = (s.seq f).cursor + 1 ∧ (t.st i).state = (s.st i).state) ∧
        ((s.st i).state = .stowed ∨ (s.st i).state = .rewind ∨
            ((s.st i).state = .payout ∧ (s.st i).fittingTag = none ∧ (s.st i).holds = []) →
          ((s.seq f).cursor + 1 = (s.seq f).entries.length →
            (∀ e ∈ (s.seq f).entries, e.station ≠ i → e.status.finished = true) →
            (t.seq f).state = .done ∧ (t.face f).attn = (s.face f).attn.put .planDone true ∧
              (t.face f).grant = (if (s.face f).grant = .departing then .cleared else (s.face f).grant) ∧
              (t.seq f).walkOwed = false) ∧
          ((s.seq f).cursor + 1 ≠ (s.seq f).entries.length ∨
              (∃ e ∈ (s.seq f).entries, e.station ≠ i ∧ e.status.finished = false) →
            (t.seq f).state = .running ∧ (t.face f).attn = (s.face f).attn ∧
              (t.face f).grant = (s.face f).grant ∧ (t.seq f).walkOwed = (t.seq f).canLook)) ∧
        ((s.st i).state = .slack →
          (t.seq f).find i =
              ((s.seq f).find i).map (fun e => { e with status := .slack, timer := some (s.seq f).timeout }) ∧
            (t.seq f).cursor = (s.seq f).cursor + 1 ∧ (t.seq f).state = .running ∧ (t.st i).state = .slack) ∧
        ((s.st i).state = .payout → (s.st i).fittingTag = none → (s.st i).holds = [] →
          (t.seq f).find i = ((s.seq f).find i).map (fun e => { e with status := .skipped }) ∧
            (t.seq f).cursor = (s.seq f).cursor + 1 ∧ (t.st i).state ≠ .payout) ∧
        ((s.st i).state.barredWhileVacant = true → (s.st i).holds ≠ [] →
          (t.seq f).find i = ((s.seq f).find i).map (fun e => { e with status := .blocked }) ∧
            (t.seq f).cursor = (s.seq f).cursor ∧ (t.seq f).walkOwed = false ∧ (t.st i).state = (s.st i).state) ∧
        ((s.st i).state = .tended ∨ (s.st i).state = .locked → (s.st i).holds = [] →
          (t.seq f).find i =
              ((s.seq f).find i).map (fun e => { e with status := .easing, timer := some (s.seq f).timeout }) ∧
            (t.seq f).cursor = (s.seq f).cursor + 1 ∧ (t.seq f).state = .running ∧
            ((t.st i).state = .easing ∨ (t.st i).state = .slack)) ∧
        ((s.st i).state = .payout ∧ (s.st i).fittingTag ≠ none ∨ (s.st i).state = .heave ∨
            (s.st i).state = .locking ∨ (s.st i).state = .easing → (s.st i).holds = [] →
          (t.seq f).find i = ((s.seq f).find i).map (fun e => { e with status := .waiting }) ∧
            (t.seq f).cursor = (s.seq f).cursor ∧ (t.seq f).walkOwed = false ∧ (t.st i).state = (s.st i).state))

/-- The start claim owed first, to a RETURNED entry, eases a TENDED or LOCKED line without holds and makes the entry EASING with
its step timer as it was; any other finding leaves record and entry; a start claim not owed, or owed after another, changes
nothing, in the order of the model's reading, log 9. A return claim owed sends an EASING line to TENDED and makes an EASING
entry RETURNED; any other line is left, and the entry takes the status of what the claim found. An expired step timer of an
entry in progress is spent, and STEP_LATE is latched (R45, R49, R129, R130, R134, R136). -/
def Obligations.StartReturnAndStepTimerActOnTheirEntry : Prop :=
  ∀ (f : Face) (i : StationId) (e : PlanEntry) (s : State), s.inReset = false → s.faceOf i = some f →
    (s.seq f).WalkLaw → (s.seq f).find i = some e →
    (∀ rest, (s.seq f).startsOwed = i :: rest → LineReport.entered .fault ∉ (s.st i).toSequencer →
      (e.status = .returned → (s.st i).state = .tended ∨ (s.st i).state = .locked → (s.st i).holds = [] →
        Completes (.startClaim i) s fun t =>
          s.OnlyStationAndFace t i f ∧ (t.seq f).find i = some { e with status := .easing } ∧
            ((t.st i).state = .easing ∨ (t.st i).state = .slack) ∧ (t.st i).holds = [] ∧
            (s.st i).KeepsTags (t.st i) ∧ (s.st i).KeepsViews (t.st i) ∧ (t.seq f).startsOwed = rest ∧
            (t.seq f).walkOwed = (s.seq f).walkOwed ∧ (t.seq f).state = (s.seq f).state) ∧
      (e.status ≠ .returned ∨ ¬((s.st i).state = .tended ∨ (s.st i).state = .locked) ∨ (s.st i).holds ≠ [] →
        Completes (.startClaim i) s fun t =>
          s.OnlyFace t f ∧ t.face f = { s.face f with sequencer := { s.seq f with startsOwed := rest } })) ∧
    ((s.seq f).startsOwed.head? ≠ some i → Completes (.startClaim i) s fun t => t = s) ∧
    (i ∈ (s.seq f).returnsOwed → e.status = .easing →
      ((s.st i).state = .easing →
        Completes (.returnClaim i) s fun t =>
          s.OnlyStationAndFace t i f ∧ (t.seq f).find i = some { e with status := .returned } ∧
            (s.st i).MovedTo (t.st i) .tended ∧ (s.st i).KeepsTags (t.st i) ∧ (s.st i).KeepsClamp (t.st i) ∧
            (t.st i).holds = (s.st i).holds ∧ (t.st i).Emptied .idle ∧ (t.st i).NoOptions ∧
            (t.st i).attn = (s.st i).attn.changed .easing .tended ∧ i ∉ (t.seq f).returnsOwed) ∧
      ∀ status : EntryStatus,
        ((s.st i).state = .tended ∨ (s.st i).state = .locking ∨ (s.st i).state = .locked) ∧ status = .returned ∨
          (s.st i).state = .slack ∧ status = .slack ∨
          ((s.st i).state = .rewind ∨ (s.st i).state = .stowed) ∧ status = .done ∨
          (s.st i).state = .fault ∧ status = .failed →
        Completes (.returnClaim i) s fun t =>
          s.OnlyFace t f ∧ (t.seq f).find i = some { e with status := status } ∧ i ∉ (t.seq f).returnsOwed ∧
            (t.seq f).state = (s.seq f).state ∧ (t.face f).grant = (s.face f).grant) ∧
    (i ∉ (s.seq f).returnsOwed → Completes (.returnClaim i) s fun t => t = s) ∧
    ((s.seq f).active = true → e.timer.isSome = true → e.status.inProgress = true →
      Completes (.stepTimerExpiry i) s fun t =>
        s.OnlyStationAndFace t i f ∧ (t.seq f).find i = some { e with timer := none, late := true } ∧
          t.st i = { s.st i with attn := (s.st i).attn.put .stepLate true } ∧
          (t.seq f).state = (s.seq f).state)

/-- A line's report is taken from the front of its reports by the RUNNING or PAUSED sequencer of its face, and the entry
that lists the line follows Table 6-5; the one that finishes the last entry completes the plan: DONE, a DEPARTING grant
CLEARED, PLAN_DONE. An emptied hold stack of a BLOCKED entry at the cursor asks for a look, and of a RETURNED entry for a
start claim, in RUNNING (R17, R124, R129, R131, R133). -/
def Obligations.ReportsDriveTheEntriesOfThePlan : Prop :=
  ∀ (f : Face) (i : StationId) (e : PlanEntry) (new : LineState) (rest : List LineReport) (s : State),
    s.inReset = false → s.faceOf i = some f → (s.seq f).active = true → (s.seq f).WalkLaw →
    (s.seq f).find i = some e →
    ((s.st i).toSequencer = .entered new :: rest →
      Completes (.stateReport i) s fun t =>
        s.KeepsFaces t (fun g => decide (g = f)) ∧ s.KeepsDevice t ∧ t.shore = s.shore ∧
          (∀ j, t.st j = { s.st j with toSequencer := (t.st j).toSequencer }) ∧
          (e.status = .easing → new = .slack → (t.seq f).find i = some { e with status := .slack }) ∧
          (e.status = .easing → new = .tended → (t.seq f).find i = some { e with status := .returned }) ∧
          (e.status = .slack → new = .rewind →
            (t.seq f).find i = some { e with status := .done, timer := none } ∧
              (t.seq f).walkOwed = (t.seq f).canLook ∧
              ((s.seq f).state = .running → (s.seq f).cursor = (s.seq f).entries.length →
                (∀ x ∈ (s.seq f).entries, x.station ≠ i → x.status.finished = true) →
                (t.seq f).state = .done ∧ (t.face f).attn = (s.face f).attn.put .planDone true ∧
                  (t.face f).grant =
                    (if (s.face f).grant = .departing then .cleared else (s.face f).grant)) ∧
              ((s.seq f).state ≠ .running ∨ (s.seq f).cursor ≠ (s.seq f).entries.length ∨
                  (∃ x ∈ (s.seq f).entries, x.station ≠ i ∧ x.status.finished = false) →
                (t.seq f).state = (s.seq f).state ∧ (t.face f).attn = (s.face f).attn ∧
                  (t.face f).grant = (s.face f).grant)) ∧
          (e.status.inProgress = true → new = .fault →
            (t.seq f).find i = some { e with status := .failed, timer := none } ∧
              (t.seq f).state = .paused .failed ∧
              ((s.seq f).state ≠ .paused .failed → (t.face f).attn.planPaused = true)) ∧
          (e.status = .returned → new = .locking → t.seq f = s.seq f) ∧
          (e.status = .returned → new = .tended ∨ new = .locked → (s.seq f).state = .running →
            t.seq f = { s.seq f with startsOwed := (s.seq f).startsOwed ++ [i] }) ∧
          (e.status = .done ∨ e.status = .skipped ∨ e.status = .failed → t.face f = s.face f) ∧
          (e.status = .waiting ∨ e.status = .blocked → (s.seq f).cursorStation = some i →
            t.seq f = { s.seq f with walkOwed := (s.seq f).canLook }) ∧
          (e.status = .waiting ∨ e.status = .blocked → (s.seq f).cursorStation ≠ some i → t.face f = s.face f)) ∧
    ((s.st i).toSequencer = .holdsEmptied :: rest →
      Completes (.holdStackEmptied i) s fun t =>
        s.OnlyStationAndFace t i f ∧ t.st i = { s.st i with toSequencer := rest } ∧
          (e.status = .blocked → (s.seq f).cursorStation = some i →
            t.seq f = { s.seq f with walkOwed := (s.seq f).canLook }) ∧
          (e.status = .returned → (s.seq f).state = .running →
            t.seq f = { s.seq f with startsOwed := (s.seq f).startsOwed ++ [i] }) ∧
          (e.status ≠ .blocked → e.status ≠ .returned → t.face f = s.face f))

/-! ### Emergency release -/

/-- The action on a face, whether EMERGENCY_RELEASE or an activation starts it: the grant goes to CLEARED out of APPROACH,
MOORED and DEPARTING, one release claim is handed to each record of the window and one report to the sequencer, EMERGENCY
is latched, and the other face is not touched. The host's request leaves the filtered level, and answers with the grant
found; a deactivation changes only the filtered level; the report freezes a RUNNING or PAUSED plan (R138, R141, R142, R143,
R147). -/
def Obligations.TheEmergencyActionClearsTheFace : Prop :=
  ∀ (f : Face) (s : State), s.inReset = false →
    (s.HostReady →
      Completes (.emergencyRelease f) s fun t =>
        s.Answers t 0 .accepted [(s.face f).grant.code] ∧ s.KeepsFaces t (fun g => decide (g = f)) ∧
          s.KeepsDevice t ∧
          t.face f = { s.face f with
            grant := if (s.face f).grant = .vacant then .vacant else .cleared
            planReports := (s.face f).planReports + 1, attn := (s.face f).attn.put .emergency true } ∧
          ∀ i, t.st i = { s.st i with
            releaseClaims := (s.st i).releaseClaims + if inWindow (s.face f).window i then 1 else 0 }) ∧
    ((s.face f).erActive = false →
      Completes (.erActivation f) s fun t =>
        s.KeepsFaces t (fun g => decide (g = f)) ∧ s.KeepsDevice t ∧ t.shore = s.shore ∧
          t.face f = { s.face f with
            grant := if (s.face f).grant = .vacant then .vacant else .cleared
            erActive := true, planReports := (s.face f).planReports + 1
            attn := (s.face f).attn.put .emergency true } ∧
          ∀ i, t.st i = { s.st i with
            releaseClaims := (s.st i).releaseClaims + if inWindow (s.face f).window i then 1 else 0 }) ∧
    ((s.face f).erActive = true → Completes (.erActivation f) s fun t => t = s) ∧
    Completes (.erDeactivation f) s (fun t =>
      s.OnlyFace t f ∧ t.face f = { s.face f with erActive := false }) ∧
    (0 < (s.face f).planReports →
      Completes (.emergencyPlanReport f) s fun t =>
        s.KeepsFaces t (fun g => decide (g = f)) ∧ s.KeepsDevice t ∧ t.shore = s.shore ∧
          (∀ i, t.st i = { s.st i with toSequencer := (t.st i).toSequencer }) ∧
          t.face f = { s.face f with planReports := (s.face f).planReports - 1, sequencer := t.seq f } ∧
          ((s.seq f).active = false → t.seq f = s.seq f) ∧
          ((s.seq f).active = true →
            (t.seq f).state = .idle ∧ (t.seq f).cursor = (s.seq f).cursor ∧
              (t.seq f).entries = (s.seq f).entries.map fun e => { e with timer := none }))

/-- A release claim sends a line in PAYOUT, HEAVE, TENDED, LOCKING, LOCKED, EASING, FAULT or HALTED to SLACK: the hold stack
is emptied, the drum freed and the clamp ordered OPEN, the tags and the band stay, and nothing is latched. A line in SLACK,
REWIND or STOWED is left as it is (R144, Table 7-1). -/
def Obligations.AReleaseClaimLetsTheLineGo : Prop :=
  ∀ (i : StationId) (s : State), s.inReset = false → 0 < (s.st i).releaseClaims →
    ((s.st i).state = .slack ∨ (s.st i).state = .rewind ∨ (s.st i).state = .stowed →
      Completes (.releaseClaim i) s fun t =>
        s.OnlyStation t i ∧ t.st i = { s.st i with releaseClaims := (s.st i).releaseClaims - 1 }) ∧
    ((s.st i).state ≠ .slack → (s.st i).state ≠ .rewind → (s.st i).state ≠ .stowed →
      Completes (.releaseClaim i) s fun t =>
        s.OnlyStation t i ∧ (t.st i).state = .slack ∧ (t.st i).holds = [] ∧ (t.st i).Emptied .free ∧
          (t.st i).fault = none ∧ (t.st i).easingPhase = none ∧ (t.st i).easeTimer = none ∧
          (t.st i).clearRemembered = some false ∧ (s.st i).KeepsTags (t.st i) ∧
          (t.st i).monitor = (s.st i).monitor.changed (s.st i).state .slack ∧
          (t.st i).attn = (s.st i).attn.changed (s.st i).state .slack ∧
          (t.st i).settings = (s.st i).settings ∧ (t.st i).drive.payout = (s.st i).drive.payout ∧
          (t.st i).releaseClaims = (s.st i).releaseClaims - 1 ∧ s.Reports t i [.entered .slack] ∧
          (t.st i).drive.command = some .opened ∧
          ((s.st i).drive.field = .opened → (t.st i).drive.field = .opened) ∧
          ((s.st i).drive.field = .opening → (s.st i).drive.reading ≠ .openOnly →
            (t.st i).drive.field = .opening ∧ (t.st i).drive.deadline = (s.st i).drive.deadline) ∧
          ((s.st i).drive.field = .closed ∨ (s.st i).drive.field = .closing ∨ (s.st i).drive.field = .unknown →
            (s.st i).drive.reading ≠ .openOnly →
            (t.st i).drive.field = .opening ∧ (t.st i).drive.deadline = some (s.st i).settings.travelLimit))

/-! ### Attention -/

/-- ACK_ATTENTION clears the named latches that are pending, leaves every other condition, a named level among them, and
answers with the set it leaves; a code outside the scope's table, or a scope that is neither STATION nor FACE, is refused
BAD_VALUE and clears nothing (R172, R173). -/
def Obligations.AcknowledgementClearsTheNamedLatchesAlone : Prop :=
  ∀ (i : StationId) (f : Face) (codes : List Byte) (scope target : Byte) (s : State), s.HostReady →
    ((∀ b ∈ codes, b.toNat ≤ 8) →
      Completes (.ackAttention (.station i) codes) s fun t =>
        s.OnlyStationAndPort t i ∧
          s.Answers t (1 + codes.length) .ok ([0, natByte i.val] ++ natBytes (t.st i).attn.bits) ∧
          t.st i = { s.st i with attn := (t.st i).attn } ∧
          ∀ k : StationCondition, (t.st i).attn.has k =
            ((s.st i).attn.has k && !(k.isLatch && codes.any fun b => decide (b.toNat = k.code)))) ∧
    ((∀ b ∈ codes, b.toNat ≤ 3) →
      Completes (.ackAttention (.face f) codes) s fun t =>
        s.OnlyFaceAndPort t f ∧
          s.Answers t (1 + codes.length) .ok ([1, faceCode f] ++ natBytes (t.face f).attn.bits) ∧
          t.face f = { s.face f with attn := (t.face f).attn } ∧
          ∀ k : FaceCondition, (t.face f).attn.has k =
            ((s.face f).attn.has k && !(k.isLatch && codes.any fun b => decide (b.toNat = k.code)))) ∧
    ((∃ b ∈ codes, 8 < b.toNat) →
      Completes (.ackAttention (.station i) codes) s fun t => s.Refuses t (1 + codes.length) .badValue) ∧
    ((∃ b ∈ codes, 3 < b.toNat) →
      Completes (.ackAttention (.face f) codes) s fun t => s.Refuses t (1 + codes.length) .badValue) ∧
    Completes (.ackAttention (.other scope target) codes) s
      (fun t => s.Refuses t (1 + codes.length) .badValue) ∧
    Completes (.readAttention (.other scope target)) s fun t => s.Refuses t 1 .badValue

/-- ATTN is asserted exactly while at least one pending condition of any station set or face set belongs to an unmasked
class; with both classes masked, and while a reset holds, it is released. SET_CLASS_MASK replaces both masks, changes nothing
else, and answers with the mask in force; its frame with another target than 0 is refused BAD_TARGET (R169, R170). The two
bits of its byte are those of Table 12-2. -/
def Obligations.AttnFollowsThePendingConditionsAndTheMask : Prop :=
  ∀ s : State,
    (s.attnAsserted = true ↔
      (∃ i k, (s.st i).attn.has k = true ∧ s.unmasked (StationCondition.cls k) = true) ∨
        ∃ f k, (s.face f).attn.has k = true ∧ s.unmasked (FaceCondition.cls k) = true) ∧
    (s.urgentMasked = true → s.routineMasked = true → s.attnAsserted = false) ∧
    Completes .powerOnReset s (fun t => t.attnAsserted = false) ∧
    ∀ mask : Byte, s.HostReady →
      (Completes (.setClassMask mask) s fun t =>
        s.KeepsStations t (fun _ => false) ∧ s.KeepsFaces t (fun _ => false) ∧ t.pending = s.pending ∧
          t.inReset = s.inReset ∧ t.urgentMasked = mask.getLsbD 0 ∧ t.routineMasked = mask.getLsbD 1 ∧
          s.Answers t 1 .ok [mask &&& 3]) ∧
      ∀ target : Byte, target ≠ 0 →
        Completes (.shoreFrameRefused (shoreFrame 0x4B target [mask])) s fun t => s.Refuses t 1 .badTarget

/-- CLEAR_LINK_STATUS clears the named flags, answers with those still set, keeps LINK_ERROR in step with them, and a set
naming anything but the four flags is refused BAD_VALUE (R167, R189). -/
def Obligations.ClearLinkStatusClearsTheNamedFlags : Prop :=
  ∀ (f : Face) (set : Byte) (s : State), s.HostReady →
    (set.toNat < 16 →
      Completes (.clearLinkStatus f set) s fun t =>
        s.OnlyFaceAndPort t f ∧
          t.face f = { s.face f with
            link := { (s.face f).link with flags := (t.face f).link.flags }
            attn := (s.face f).attn.put .linkError (t.face f).link.flags.anySet } ∧
          (t.face f).link.flags.frameError = ((s.face f).link.flags.frameError && !set.getLsbD 0) ∧
          (t.face f).link.flags.outsideWindow = ((s.face f).link.flags.outsideWindow && !set.getLsbD 1) ∧
          (t.face f).link.flags.tagMismatch = ((s.face f).link.flags.tagMismatch && !set.getLsbD 2) ∧
          (t.face f).link.flags.noGrant = ((s.face f).link.flags.noGrant && !set.getLsbD 3) ∧
          ∃ b : Byte, s.Answers t 1 .ok [b] ∧ b.toNat < 16 ∧ b.getLsbD 0 = (t.face f).link.flags.frameError ∧
            b.getLsbD 1 = (t.face f).link.flags.outsideWindow ∧ b.getLsbD 2 = (t.face f).link.flags.tagMismatch ∧
            b.getLsbD 3 = (t.face f).link.flags.noGrant) ∧
    (16 ≤ set.toNat → Completes (.clearLinkStatus f set) s fun t => s.Refuses t 1 .badValue)

/-! ### Requests of a ship on a line -/

/-- A ship's TAKE_UP and MARK_CLEAR do to the line what the host's do, and latch SHIP_CHANGE: a tagged PAYOUT line heaves, a
SLACK line goes to REWIND or remembers the clear; that it remembers it with the clamp field CLOSED or UNKNOWN too is the
model's reading, log 22. A line in another state is refused WRONG_STATE (R21, R30, R31, R52). -/
def Obligations.AShipTakesUpAndMarksClear : Prop :=
  ∀ (f : Face) (tag : Half) (selector : Byte) (i : StationId) (s : State), s.ShipReady f tag →
    s.Selects f selector i →
    (s.MooringServed f →
      ((s.st i).state = .payout → (s.st i).fittingTag ≠ none →
        ((s.st i).monitor.failed = false → (s.st i).drive.field = .opened → (s.st i).drive.homeClosed = false →
          (s.st i).drive.payout ≠ some 0 → ∀ b, (s.st i).band = some b →
          (s.st i).average.all (fun a => decide (a < b.low)) = true →
          Completes (.takeUp (.ship f tag selector)) s fun t =>
            s.OnlyStationAndFace t i f ∧ s.ShipAnswers t f tag .accepted [2] ∧ (s.st i).MovedTo (t.st i) .heave ∧
              (s.st i).KeepsTags (t.st i) ∧ (s.st i).KeepsClamp (t.st i) ∧ (t.st i).holds = (s.st i).holds ∧
              (t.st i).Runs ⟨.heave, (s.st i).settings.heaveDuty, none, .tensionGe b.low, true⟩
                (some (s.st i).settings.stallTime) ∧
              (t.st i).drive.nxt =
                some ⟨.heave, (s.st i).settings.heaveDuty, none, .tensionGe b.midpoint, false⟩ ∧
              (t.st i).attn = ((s.st i).attn.changed .payout .heave).put .shipChange true) ∧
        ((s.st i).monitor.failed = true →
          Completes (.takeUp (.ship f tag selector)) s fun t =>
            s.OnlyFace t f ∧ s.ShipAnswers t f tag .sensor [])) ∧
      ((s.st i).state ≠ .payout ∨ (s.st i).fittingTag = none →
        Completes (.takeUp (.ship f tag selector)) s fun t =>
          s.OnlyFace t f ∧ s.ShipAnswers t f tag .wrongState [])) ∧
    ((s.st i).state = .slack → (s.st i).drive.field ≠ .opened →
      Completes (.markClear (.ship f tag selector)) s fun t =>
        s.OnlyStationAndFace t i f ∧ s.ShipAnswers t f tag .accepted [7] ∧
          t.st i = { s.st i with clearRemembered := some true, attn := (s.st i).attn.put .shipChange true }) ∧
    ((s.st i).state = .slack → (s.st i).drive.field = .opened → (s.st i).drive.homeClosed = false →
      (s.st i).drive.payout ≠ some 0 →
      Completes (.markClear (.ship f tag selector)) s fun t =>
        s.OnlyStationAndFace t i f ∧ s.ShipAnswers t f tag .accepted [8] ∧ (s.st i).MovedTo (t.st i) .rewind ∧
          (s.st i).KeepsTags (t.st i) ∧ (s.st i).KeepsClamp (t.st i) ∧ (t.st i).NoOptions ∧
          (t.st i).Runs ⟨.heave, (s.st i).settings.rewindDuty, none, .homeClosed, true⟩
            (some (s.st i).settings.stallTime) ∧
          (t.st i).attn = ((s.st i).attn.changed .slack .rewind).put .shipChange true ∧
          s.Reports t i [.entered .rewind]) ∧
    ((s.st i).state ≠ .slack →
      Completes (.markClear (.ship f tag selector)) s fun t =>
        s.OnlyFace t f ∧ s.ShipAnswers t f tag .wrongState [])

/-! ### Tension measurement -/

/-- TM_SAMPLE forms a tension from the rising edges of its window, or an invalid sample; a valid one enters the list of at
most four and ends the invalid run, an invalid one lengthens the run until the limit fails the sensor, and four valid ones
in a row recover it with themselves as the list. Nothing but the channel and the level conditions of its station changes
(R61 to R66, R68). -/
def Obligations.ASampleEntersTheListAndMovesTheSensorStatus : Prop :=
  (∀ (u : StationSettings) (first last : Nat) (rest : List Nat), rest.getLast? = some last →
    (u.periodMin ≤ (last - first) / rest.length → (last - first) / rest.length ≤ u.periodMax →
      sampleOf u (first :: rest) =
        some (min 10000 ((100000000 / ((last - first) / rest.length) - 10 * u.f0) * u.gain / 10000))) ∧
    ((last - first) / rest.length < u.periodMin ∨ u.periodMax < (last - first) / rest.length →
      sampleOf u (first :: rest) = none) ∧
    sampleOf u [] = none ∧ sampleOf u [first] = none) ∧
  ∀ (i : StationId) (edges : List Nat) (s : State), s.inReset = false →
    Completes (.tmSample i edges) s fun t =>
      s.OnlyStation t i ∧ t.st i = { s.st i with monitor := (t.st i).monitor, attn := (t.st i).attn } ∧
        (∀ k : StationCondition, k ≠ .belowBand → k ≠ .aboveBand → k ≠ .lockAlarm →
          (t.st i).attn.has k = (s.st i).attn.has k) ∧
        ((s.st i).monitor.failed = false →
          (∀ v, sampleOf (s.st i).settings edges = some v →
            (t.st i).monitor.samples =
                (if (s.st i).monitor.samples.length < 4 then (s.st i).monitor.samples
                  else (s.st i).monitor.samples.tail) ++ [v] ∧
              (t.st i).monitor.failed = false ∧ (t.st i).monitor.invalidRun = 0) ∧
          (sampleOf (s.st i).settings edges = none →
            ((s.st i).monitor.invalidRun + 1 < (s.st i).settings.invalidLimit →
              (t.st i).monitor.samples = (s.st i).monitor.samples ∧ (t.st i).monitor.failed = false ∧
                (t.st i).monitor.invalidRun = (s.st i).monitor.invalidRun + 1) ∧
            ((s.st i).settings.invalidLimit ≤ (s.st i).monitor.invalidRun + 1 →
              (t.st i).monitor.samples = [] ∧ (t.st i).monitor.failed = true ∧ (t.st i).monitor.invalidRun = 0 ∧
                (t.st i).monitor.kept = [] ∧ MonitorReport.sensorFailed ∈ (t.st i).monitor.reports))) ∧
        ((s.st i).monitor.failed = true →
          (∀ v, sampleOf (s.st i).settings edges = some v →
            ((s.st i).monitor.kept.length = 3 →
              (t.st i).monitor.samples = (s.st i).monitor.kept ++ [v] ∧ (t.st i).monitor.failed = false ∧
                (t.st i).monitor.kept = [] ∧ MonitorReport.sensorRecovered ∈ (t.st i).monitor.reports) ∧
            ((s.st i).monitor.kept.length < 3 →
              (t.st i).monitor.samples = (s.st i).monitor.samples ∧ (t.st i).monitor.failed = true ∧
                (t.st i).monitor.kept = (s.st i).monitor.kept ++ [v])) ∧
          (sampleOf (s.st i).settings edges = none →
            (t.st i).monitor.samples = (s.st i).monitor.samples ∧ (t.st i).monitor.failed = true ∧
              (t.st i).monitor.kept = []))

/-- TM_SAMPLE compares the new average under the record's state: the below and above counts and the band conditions in
TENDED and LOCKED, the parted count there, the trip count and LOCK_ALARM in LOCKING and LOCKED, the clear dwell count in
SLACK. The channel's new reports follow the old ones in the order sensor, parted line, lock trip, correction. A comparison
that does not apply changes nothing. A band dwell or clear dwell that is reached is noted, and its condition becomes pending
by the step of its own row: the model's reading, log 5. A band condition that is pending stays so out of band, whatever the
band dwell has been set to: the model's choice, log 25 (R53, R68, R70, R72 to R74, R76 to R79). -/
def Obligations.ASampleIsComparedByTheStateOfTheLine : Prop :=
  ∀ (i : StationId) (edges : List Nat) (s : State), s.inReset = false →
    Completes (.tmSample i edges) s fun t =>
      ((s.st i).state.bandCompared = false →
        (t.st i).monitor.below = (s.st i).monitor.below ∧ (t.st i).monitor.above = (s.st i).monitor.above ∧
          (t.st i).monitor.parted = (s.st i).monitor.parted ∧ (t.st i).attn.belowBand = (s.st i).attn.belowBand ∧
          (t.st i).attn.aboveBand = (s.st i).attn.aboveBand) ∧
      ((s.st i).state.lockProtected = false →
        (t.st i).monitor.trip = (s.st i).monitor.trip ∧ (t.st i).attn.lockAlarm = (s.st i).attn.lockAlarm) ∧
      ((s.st i).state ≠ .slack →
        (t.st i).monitor.clearDwell = (s.st i).monitor.clearDwell ∧
          (t.st i).monitor.clearDue = (s.st i).monitor.clearDue) ∧
      ((s.st i).state.bandCompared = true →
        ((t.st i).average = none →
          (t.st i).monitor.below = 0 ∧ (t.st i).monitor.above = 0 ∧ (t.st i).monitor.parted = 0) ∧
        ∀ a, (t.st i).average = some a → ∀ b, (s.st i).band = some b → b.valid = true →
          ∀ below, below = (if (s.st i).monitor.bandChanged then 0 else (s.st i).monitor.below) →
          ∀ above, above = (if (s.st i).monitor.bandChanged then 0 else (s.st i).monitor.above) →
          ((t.st i).monitor.parted =
            if a < (s.st i).settings.partedThreshold then min 65535 ((s.st i).monitor.parted + 1) else 0) ∧
          (b.low ≤ a → a ≤ b.high →
            (t.st i).monitor.below = 0 ∧ (t.st i).monitor.above = 0 ∧ (t.st i).attn.belowBand = false ∧
              (t.st i).attn.aboveBand = false) ∧
          (a < b.low → (t.st i).monitor.above = 0 ∧ (t.st i).attn = { (s.st i).attn with
              lockAlarm := (t.st i).attn.lockAlarm } ∧
            ((t.st i).monitor.belowDue = ((s.st i).monitor.belowDue ||
              (decide ((s.st i).settings.bandDwell ≤ min 65535 (below + 1)) && !(s.st i).attn.belowBand))) ∧
            (MonitorReport.parted ∉ (t.st i).monitor.reports → (s.st i).state = .tended →
              (s.st i).drive.field = .opened → (s.st i).settings.bandDwell ≤ min 65535 (below + 1) →
              (t.st i).monitor.below = 0 ∧
                (t.st i).monitor.reports.getLast? = some (MonitorReport.correction .below)) ∧
            ((s.st i).state = .locked ∨ (s.st i).drive.field ≠ .opened ∨
                min 65535 (below + 1) < (s.st i).settings.bandDwell →
              (t.st i).monitor.below = min 65535 (below + 1))) ∧
          (b.high < a → (t.st i).monitor.below = 0 ∧ (t.st i).attn = { (s.st i).attn with
              lockAlarm := (t.st i).attn.lockAlarm } ∧
            ((t.st i).monitor.aboveDue = ((s.st i).monitor.aboveDue ||
              (decide ((s.st i).settings.bandDwell ≤ min 65535 (above + 1)) && !(s.st i).attn.aboveBand))) ∧
            (MonitorReport.parted ∉ (t.st i).monitor.reports → (s.st i).state = .tended →
              (s.st i).drive.field = .opened → (s.st i).settings.bandDwell ≤ min 65535 (above + 1) →
              (t.st i).monitor.above = 0 ∧
                (t.st i).monitor.reports.getLast? = some (MonitorReport.correction .above)) ∧
            ((s.st i).state = .locked ∨ (s.st i).drive.field ≠ .opened ∨
                min 65535 (above + 1) < (s.st i).settings.bandDwell →
              (t.st i).monitor.above = min 65535 (above + 1)))) ∧
      ((s.st i).state.lockProtected = true →
        ((t.st i).attn.lockAlarm =
          (t.st i).average.any fun a => decide ((s.st i).settings.lockAlarm ≤ a)) ∧
        ((t.st i).monitor.trip =
          if (t.st i).average.any fun a => decide ((s.st i).settings.lockTrip ≤ a) then
            min 65535 ((s.st i).monitor.trip + 1) else 0)) ∧
      ((s.st i).state = .slack →
        ((t.st i).monitor.clearDwell =
          if (t.st i).average.any fun a => decide (a < (s.st i).settings.slackThreshold) then
            min 65535 ((s.st i).monitor.clearDwell + 1) else 0) ∧
        ((t.st i).monitor.clearDue = ((s.st i).monitor.clearDue ||
          (decide ((t.st i).monitor.clearDwell ≠ 0) &&
            decide ((s.st i).settings.clearDwell ≤ (t.st i).monitor.clearDwell) &&
            decide ((s.st i).settings.autoClear = 1))))) ∧
      ∃ sensor parted trip correction : List MonitorReport,
        (t.st i).monitor.reports = (s.st i).monitor.reports ++ (sensor ++ parted ++ trip ++ correction) ∧
          (sensor = [] ∨ sensor = [.sensorFailed] ∨ sensor = [.sensorRecovered]) ∧
          parted = (if (s.st i).state.bandCompared = true ∧ (t.st i).monitor.parted ≠ 0 ∧
              (s.st i).settings.partedDwell ≤ (t.st i).monitor.parted ∧ (s.st i).monitor.partedGiven = false then
            [.parted] else []) ∧
          trip = (if (s.st i).state.lockProtected = true ∧ (t.st i).monitor.trip ≠ 0 ∧
              (s.st i).settings.tripDwell ≤ (t.st i).monitor.trip ∧ (s.st i).monitor.tripGiven = false then
            [.lockTrip] else []) ∧
          (correction = [] ∨ correction = [.correction .below] ∨ correction = [.correction .above])

/-- The reports of a channel, taken from its front, by the state they find: a failed sensor sends HEAVE, TENDED, LOCKING,
LOCKED and EASING to FAULT SENSOR and clears the clear dwell elsewhere; a recovered one moves no line; a parted line goes
from TENDED and LOCKED to FAULT PARTED; a lock trip drops LOCKING, and LOCKED with hard lock off, to TENDED with the clamp
ordered OPEN and LOCK_DROPPED, and LOCKED with hard lock on to FAULT LOCK_TRIP. Elsewhere a report changes nothing (R41,
R69, R71, R77, R79). -/
def Obligations.ChannelReportsActByTheStateTheyFind : Prop :=
  ∀ (i : StationId) (rest : List MonitorReport) (s : State) (c : Station),
    c = { s.st i with monitor := { (s.st i).monitor with reports := rest } } → s.inReset = false →
    ((s.st i).monitor.reports = .sensorFailed :: rest →
      ((s.st i).state.needsSensor = true →
        Completes (.sensorFailed i) s fun t =>
          s.OnlyStation t i ∧ c.Faulted (t.st i) .sensor ∧ s.Reports t i [.entered .fault]) ∧
      ((s.st i).state.needsSensor = false →
        Completes (.sensorFailed i) s fun t =>
          s.OnlyStation t i ∧ t.st i = { c with monitor := { c.monitor with clearDwell := 0 } })) ∧
    ((s.st i).monitor.reports = .sensorRecovered :: rest →
      Completes (.sensorRecovered i) s fun t => s.OnlyStation t i ∧ t.st i = c) ∧
    ((s.st i).monitor.reports = .parted :: rest →
      ((s.st i).state = .tended ∨ (s.st i).state = .locked →
        Completes (.partedLine i) s fun t =>
          s.OnlyStation t i ∧ c.Faulted (t.st i) .parted ∧ s.Reports t i [.entered .fault]) ∧
      ((s.st i).state ≠ .tended → (s.st i).state ≠ .locked →
        Completes (.partedLine i) s fun t => s.OnlyStation t i ∧ t.st i = c)) ∧
    ((s.st i).monitor.reports = .lockTrip :: rest →
      ((s.st i).state = .locking ∨ ((s.st i).state = .locked ∧ (s.st i).settings.hardLock ≠ 1) →
        Completes (.lockTrip i) s fun t =>
          s.OnlyStation t i ∧ c.MovedTo (t.st i) .tended ∧ c.KeepsTags (t.st i) ∧ (t.st i).holds = c.holds ∧
            (t.st i).NoOptions ∧ (t.st i).Emptied .idle ∧ (t.st i).drive.command = some .opened ∧
            (t.st i).attn = (c.attn.changed c.state .tended).put .lockDropped true ∧
            s.Reports t i [.entered .tended] ∧
            (c.drive.field ≠ .opened → c.drive.field ≠ .opening → c.drive.reading ≠ .openOnly →
              (t.st i).drive.field = .opening ∧ (t.st i).drive.deadline = some c.settings.travelLimit)) ∧
      ((s.st i).state = .locked → (s.st i).settings.hardLock = 1 →
        Completes (.lockTrip i) s fun t =>
          s.OnlyStation t i ∧ c.Faulted (t.st i) .lockTrip ∧ s.Reports t i [.entered .fault]) ∧
      ((s.st i).state ≠ .locking → (s.st i).state ≠ .locked →
        Completes (.lockTrip i) s fun t => s.OnlyStation t i ∧ t.st i = c))

/-- A tending correction asked for writes the correction segment of a TENDED line with its clamp OPEN: it starts at once on
an idle drive, waits behind a running segment, and ends at once where its end value already stands; in any other state it is
dropped. A band dwell that was reached makes its condition pending, and an auto-clear that was reached takes a SLACK line as
cleared and latches no SHIP_CHANGE: steps after the sample, the model's reading, log 5; that a clear with the clamp field
CLOSED or UNKNOWN is remembered too is log 22 (R53, R73, R75). -/
def Obligations.CorrectionsDwellsAndAutoClearsAreTaken : Prop :=
  ∀ (i : StationId) (side : BandSide) (rest : List MonitorReport) (s : State) (c : Station),
    c = { s.st i with monitor := { (s.st i).monitor with reports := rest } } → s.inReset = false →
    ((s.st i).monitor.reports = .correction side :: rest →
      (∀ b, (s.st i).band = some b → (s.st i).state = .tended → (s.st i).drive.field = .opened →
        ∀ g : Segment, g = (match side with
          | .below => ⟨.heave, c.settings.tendDuty, some c.settings.tendTime, .tensionGe b.midpoint, false⟩
          | .above => ⟨.render, c.settings.tendDuty, some c.settings.tendTime, .tensionLe b.midpoint, false⟩) →
        ((s.st i).drive.mode = .running →
          Completes (.tendingCorrection i) s fun t =>
            s.OnlyStation t i ∧ t.st i = { c with drive := { c.drive with nxt := some g } }) ∧
        ((s.st i).drive.mode ≠ .running → (s.st i).drive.nxt = none →
          c.met g.endCondition = false → (side = .below → (s.st i).drive.homeClosed = false) →
          Completes (.tendingCorrection i) s fun t =>
            s.OnlyStation t i ∧ (t.st i).Runs g none ∧ (t.st i).drive.nxt = none ∧
              t.st i = { c with drive := (t.st i).drive } ∧ c.KeepsViews (t.st i) ∧ c.KeepsClamp (t.st i)) ∧
        ((s.st i).drive.mode ≠ .running → (s.st i).drive.nxt = none →
          c.met g.endCondition = true ∨ (side = .below ∧ (s.st i).drive.homeClosed = true) →
          Completes (.tendingCorrection i) s fun t =>
            s.OnlyStation t i ∧ (t.st i).Emptied .idle ∧ t.st i = { c with drive := (t.st i).drive } ∧
              c.KeepsViews (t.st i) ∧ c.KeepsClamp (t.st i))) ∧
      ((s.st i).state ≠ .tended ∨ ((s.st i).drive.field ≠ .opened ∧ (s.st i).drive.cur = none) →
        Completes (.tendingCorrection i) s fun t => s.OnlyStation t i ∧ t.st i = c)) ∧
    ((s.st i).monitor.belowDue = true →
      Completes (.bandDwell i .below) s fun t => s.OnlyStation t i ∧
        t.st i = { s.st i with
          monitor := { (s.st i).monitor with belowDue := false }, attn := (s.st i).attn.put .belowBand true }) ∧
    ((s.st i).monitor.aboveDue = true →
      Completes (.bandDwell i .above) s fun t => s.OnlyStation t i ∧
        t.st i = { s.st i with
          monitor := { (s.st i).monitor with aboveDue := false }, attn := (s.st i).attn.put .aboveBand true }) ∧
    ((s.st i).monitor.belowDue = false → Completes (.bandDwell i .below) s fun t => t = s) ∧
    ((s.st i).monitor.aboveDue = false → Completes (.bandDwell i .above) s fun t => t = s) ∧
    ((s.st i).monitor.clearDue = true → (s.st i).state = .slack →
      ((s.st i).drive.field ≠ .opened →
        Completes (.autoClear i) s fun t => s.OnlyStation t i ∧
          t.st i = { s.st i with
            monitor := { (s.st i).monitor with clearDue := false }, clearRemembered := some true }) ∧
      ((s.st i).drive.field = .opened → (s.st i).drive.homeClosed = false → (s.st i).drive.payout ≠ some 0 →
        Completes (.autoClear i) s fun t =>
          s.OnlyStation t i ∧ (s.st i).MovedTo (t.st i) .rewind ∧ (s.st i).KeepsTags (t.st i) ∧
            (s.st i).KeepsClamp (t.st i) ∧ (t.st i).NoOptions ∧
            (t.st i).Runs ⟨.heave, (s.st i).settings.rewindDuty, none, .homeClosed, true⟩
              (some (s.st i).settings.stallTime) ∧
            (t.st i).attn = (s.st i).attn.changed .slack .rewind ∧ s.Reports t i [.entered .rewind])) ∧
    ((s.st i).monitor.clearDue = false ∨ (s.st i).state ≠ .slack → Completes (.autoClear i) s fun t => t = s)

/-! ### Drive, payout and clamp -/

/-- The decoder follows the encoder's two inputs, and four quarter steps in one direction are one count. A count moves a
referenced payout by 0.01 m between 0.00 and 250.00 m, counts the overrun at zero with the home switch open, restarts a running
stall timer, and tests a payout condition. The heave count that arrives at zero with the switch open sends HEAVE to FAULT
NO_LOAD and REWIND to its creep, or to FAULT HOME with no home margin; a creep that is spent goes to FAULT HOME. Levels that
complete no cycle, and a change of both inputs at once, move the decoder alone. Which order of levels is the render direction,
and that a double change drops the part of a cycle, is the model's choice, log 15 (R27, R34, R56, R90, R91, R94). -/
def Obligations.EncoderCountsMoveThePayout : Prop :=
  ∀ (i : StationId) (dir : CountDir) (v : EncoderLevels) (s : State), s.inReset = false →
    ∀ old, old = (s.st i).drive.encoder → ∀ q, q = (s.st i).drive.quarters → ∀ c : Station,
    c = { s.st i with drive := { (s.st i).drive with
      encoder := v
      quarters := 0
      payout := match dir with
        | .render => (s.st i).drive.payout.map fun p => min 25000 (p + 1)
        | .heave => (s.st i).drive.payout.map fun p => p - 1
      overrun := match dir with
        | .render => 0
        | .heave =>
          if (s.st i).drive.payout = some 0 ∧ (s.st i).drive.homeClosed = false then
            min 65535 ((s.st i).drive.overrun + 1)
          else (s.st i).drive.overrun
      stallTimer := (s.st i).drive.stallTimer.map fun _ => (s.st i).settings.stallTime } } →
    (-3 ≤ q → q ≤ 3 → ∀ n : Int,
      (v = ⟨!old.b, old.a⟩ ∧ n = q + 1 ∧ n ≠ 4 ∨ v = ⟨old.b, !old.a⟩ ∧ n = q - 1 ∧ n ≠ -4 ∨
        v = old ∧ n = q ∨ v = ⟨!old.a, !old.b⟩ ∧ n = 0) →
      Completes (.encoderCount i [v]) s fun t => s.OnlyStation t i ∧
        t.st i = { s.st i with drive := { (s.st i).drive with encoder := v, quarters := n } }) ∧
    (∀ (rest : List EncoderLevels) (t : State), exec (.encoderCount i [v]) s = .next t →
      exec (.encoderCount i (v :: rest)) s = exec (.encoderCount i rest) t) ∧
    (dir = .render ∧ v = ⟨!old.b, old.a⟩ ∧ q = 3 ∨ dir = .heave ∧ v = ⟨old.b, !old.a⟩ ∧ q = -3 →
      ((∀ g, (s.st i).drive.cur = some g → g.endCondition.onPayout = true → c.met g.endCondition = false) →
        ((s.st i).drive.payout ≠ some 1 ∨ dir = .render ∨ (s.st i).drive.homeClosed = true ∨
            ((s.st i).state ≠ .heave ∧ (s.st i).state ≠ .rewind) →
          Completes (.encoderCount i [v]) s fun t => s.OnlyStation t i ∧ t.st i = c) ∧
        ((s.st i).drive.payout = some 1 → dir = .heave → (s.st i).drive.homeClosed = false →
          ((s.st i).state = .heave →
            Completes (.encoderCount i [v]) s fun t =>
              s.OnlyStation t i ∧ c.Faulted (t.st i) .noLoad ∧ s.Reports t i [.entered .fault]) ∧
          ((s.st i).state = .rewind → (s.st i).settings.homeMargin = 0 →
            Completes (.encoderCount i [v]) s fun t =>
              s.OnlyStation t i ∧ c.Faulted (t.st i) .home ∧ s.Reports t i [.entered .fault]) ∧
          ((s.st i).state = .rewind → (s.st i).settings.homeMargin ≠ 0 → (s.st i).drive.field = .opened →
            Completes (.encoderCount i [v]) s fun t =>
              s.OnlyStation t i ∧
                (t.st i).Runs ⟨.heave, (s.st i).settings.creepDuty, none, .homeClosed, true⟩
                  (some (s.st i).settings.stallTime) ∧
                (t.st i).drive.nxt = none ∧ (t.st i).drive.payout = some 0 ∧ c.KeepsClamp (t.st i) ∧
                t.st i = { c with
                  drive := (t.st i).drive
                  creepSpent := some ((s.st i).drive.overrun + (s.st i).settings.homeMargin) }))) ∧
      (∀ duty p sup, (s.st i).state = .payout →
        (s.st i).drive.cur = some ⟨.render, duty, none, .payoutGe p, sup⟩ →
        (s.st i).drive.nxt = none → c.met (.payoutGe p) = true →
        Completes (.encoderCount i [v]) s fun t => s.OnlyStation t i ∧ (t.st i).Emptied .idle ∧
          (t.st i).drive.payout = c.drive.payout ∧
          t.st i = { c with drive := (t.st i).drive, attn := c.attn.put .stateReached true })) ∧
    (∀ n, (s.st i).state = .rewind → (s.st i).creepSpent = some n →
      (n ≤ (s.st i).drive.overrun →
        Completes (.homeMarginSpent i) s fun t =>
          s.OnlyStation t i ∧ (s.st i).Faulted (t.st i) .home ∧ s.Reports t i [.entered .fault]) ∧
      ((s.st i).drive.overrun < n → Completes (.homeMarginSpent i) s fun t => t = s)) ∧
    ((s.st i).state ≠ .rewind ∨ (s.st i).creepSpent = none → Completes (.homeMarginSpent i) s fun t => t = s)

/-- A home closing references the payout at 0.00 m and clears the overrun, in any line state; it sends HEAVE to FAULT NO_LOAD
and REWIND, whose record it retires, to STOWED, ends a heave segment, and leaves any other line in its state. A home opening
changes only the home status, and a closing of a switch already closed is none (R8, R34, R55, R92, R93). -/
def Obligations.AHomeClosingReferencesThePayout : Prop :=
  ∀ (i : StationId) (s : State) (c : Station),
    c = { s.st i with drive := { (s.st i).drive with homeClosed := true, payout := some 0, overrun := 0 } } →
    s.inReset = false →
    ((s.st i).drive.homeClosed = false →
      ((s.st i).state = .heave →
        (∀ g, (s.st i).drive.cur = some g → g.kind = .heave ∧ g.endCondition ≠ .homeClosed) →
        Completes (.homeClosing i) s fun t =>
          s.OnlyStation t i ∧ c.Faulted (t.st i) .noLoad ∧ s.Reports t i [.entered .fault]) ∧
      ((s.st i).state = .rewind → (∀ g, (s.st i).drive.cur = some g → g.kind = .heave) →
        Completes (.homeClosing i) s fun t =>
          s.OnlyStation t i ∧ c.Retired (t.st i) ∧ s.Reports t i [.entered .stowed]) ∧
      ((s.st i).state ≠ .heave → (s.st i).state ≠ .rewind →
        (∀ g, (s.st i).drive.cur = some g → g.kind = .heave ∧ g.endCondition ≠ .homeClosed) →
        (s.st i).drive.cur.isSome = true →
        Completes (.homeClosing i) s fun t =>
          s.OnlyStation t i ∧ t.st i = { c with drive := (t.st i).drive } ∧ c.KeepsViews (t.st i) ∧
            c.KeepsClamp (t.st i) ∧ (t.st i).Emptied .idle) ∧
      ((s.st i).state ≠ .heave → (s.st i).state ≠ .rewind →
        (∀ g, (s.st i).drive.cur = some g → g.kind = .render ∧ c.met g.endCondition = false) →
        Completes (.homeClosing i) s fun t => s.OnlyStation t i ∧ t.st i = c)) ∧
    ((s.st i).drive.homeClosed = true → Completes (.homeClosing i) s fun t => t = s) ∧
    Completes (.homeOpening i) s fun t => s.OnlyStation t i ∧
      t.st i = { s.st i with drive := { (s.st i).drive with homeClosed := false } }

/-- The ends of a segment: by its tension condition, by its duration and by a stall. The waiting segment becomes current, or
the drive goes IDLE; the line goes from HEAVE to TENDED, from EASING to SLACK, or stays. A stall empties both slots and sends
PAYOUT, HEAVE and REWIND to FAULT STALL. A condition not met, or a timer that does not run, ends nothing (R32, R33, R47, R86,
R87, R95). -/
def Obligations.SegmentsEndByConditionDurationOrStall : Prop :=
  ∀ (i : StationId) (s : State) (g : Segment), (s.st i).drive.cur = some g →
    ∀ c : Station, c = { s.st i with drive := (s.st i).drive.stop } → s.inReset = false →
    (g.endCondition.onTension = false ∨ (s.st i).met g.endCondition = false →
      Completes (.tensionEndCondition i) s fun t => t = s) ∧
    (g.endCondition.onTension = true → (s.st i).met g.endCondition = true →
      ((s.st i).state = .tended → (s.st i).drive.nxt = none →
        Completes (.tensionEndCondition i) s fun t => s.OnlyStation t i ∧ t.st i = c) ∧
      ((s.st i).state = .heave → g.supervised = true → ∀ h, (s.st i).drive.nxt = some h →
        (s.st i).met h.endCondition = false → (s.st i).drive.homeClosed = false →
        Completes (.tensionEndCondition i) s fun t =>
          s.OnlyStation t i ∧ t.st i = { s.st i with drive := (t.st i).drive } ∧ (s.st i).KeepsViews (t.st i) ∧
            (s.st i).KeepsClamp (t.st i) ∧ (t.st i).drive.nxt = none ∧
            (t.st i).Runs h (if h.supervised then some (s.st i).settings.stallTime else none)) ∧
      ((s.st i).state = .heave → g.supervised = false → (s.st i).drive.nxt = none →
        Completes (.tensionEndCondition i) s fun t =>
          s.OnlyStation t i ∧ (s.st i).MovedTo (t.st i) .tended ∧ (s.st i).KeepsTags (t.st i) ∧
            (s.st i).KeepsClamp (t.st i) ∧ (t.st i).holds = (s.st i).holds ∧ (t.st i).NoOptions ∧
            (t.st i).Emptied .idle ∧
            (t.st i).attn = ((s.st i).attn.changed .heave .tended).put .stateReached true ∧
            s.Reports t i [.entered .tended]) ∧
      ((s.st i).state = .easing → (s.st i).drive.nxt = none →
        Completes (.tensionEndCondition i) s fun t =>
          s.OnlyStation t i ∧ (s.st i).MovedTo (t.st i) .slack ∧ (s.st i).KeepsTags (t.st i) ∧
            (s.st i).KeepsClamp (t.st i) ∧ (t.st i).holds = (s.st i).holds ∧ (t.st i).Emptied .free ∧
            (t.st i).clearRemembered = some false ∧ (t.st i).easingPhase = none ∧ (t.st i).easeTimer = none ∧
            (t.st i).attn = ((s.st i).attn.changed .easing .slack).put .stateReached true ∧
            s.Reports t i [.entered .slack])) ∧
    ((s.st i).drive.durTimer = none → Completes (.durationExpiry i) s fun t => t = s) ∧
    ((s.st i).drive.durTimer.isSome = true →
      ((s.st i).drive.nxt = none → Completes (.durationExpiry i) s fun t => s.OnlyStation t i ∧ t.st i = c) ∧
      (∀ h, (s.st i).drive.nxt = some h → (s.st i).met h.endCondition = false → (s.st i).drive.homeClosed = false →
        Completes (.durationExpiry i) s fun t =>
          s.OnlyStation t i ∧ t.st i = { s.st i with drive := (t.st i).drive } ∧ (s.st i).KeepsViews (t.st i) ∧
            (s.st i).KeepsClamp (t.st i) ∧ (t.st i).drive.nxt = none ∧
            (t.st i).Runs h (if h.supervised then some (s.st i).settings.stallTime else none))) ∧
    ((s.st i).drive.stallTimer = none → Completes (.stallExpiry i) s fun t => t = s) ∧
    ((s.st i).drive.stallTimer.isSome = true →
      ((s.st i).state = .payout ∨ (s.st i).state = .heave ∨ (s.st i).state = .rewind →
        Completes (.stallExpiry i) s fun t =>
          s.OnlyStation t i ∧ (s.st i).Faulted (t.st i) .stall ∧ s.Reports t i [.entered .fault]) ∧
      ((s.st i).state ≠ .payout → (s.st i).state ≠ .heave → (s.st i).state ≠ .rewind →
        Completes (.stallExpiry i) s fun t => s.OnlyStation t i ∧ t.st i = c))

/-- A clamp that reaches its commanded position in travel confirms: LOCKING goes to LOCKED, an EASING line in its OPENING
phase renders, a SLACK line with its clear remembered rewinds, any other line keeps its state. A deadline that expires makes
the field UNKNOWN and sends LOCKING, EASING, TENDED and SLACK to FAULT CLAMP, and makes CLAMP the cause in FAULT (R39, R46,
R51, R97, R98, R150). -/
def Obligations.TheClampConfirmsOrTimesOut : Prop :=
  ∀ (i : StationId) (p : ClampPosition) (s : State), s.inReset = false →
    ((s.st i).drive.command = some p → (s.st i).drive.field = p.travel → ∀ c : Station,
      c = { s.st i with drive := { (s.st i).drive with reading := p.reading, field := p.field, deadline := none } } →
      ((s.st i).state = .locking → p = .closed →
        Completes (.clampConfirm i) s fun t =>
          s.OnlyStation t i ∧ (t.st i).state = .locked ∧ (t.st i).NoOptions ∧ (t.st i).Emptied .idle ∧
            c.KeepsTags (t.st i) ∧ c.KeepsViews (t.st i) ∧ c.KeepsClamp (t.st i) ∧ (t.st i).holds = c.holds ∧
            (t.st i).monitor = c.monitor.changed .locking .locked ∧
            (t.st i).attn = (c.attn.changed .locking .locked).put .stateReached true ∧
            s.Reports t i [.entered .locked]) ∧
      ((s.st i).state = .easing → p = .opened → (s.st i).easingPhase = some .opening →
        (s.st i).drive.mode ≠ .running → (s.st i).drive.nxt = none →
        (s.st i).average.all (fun a => decide ((s.st i).settings.releaseThreshold - 1 < a)) = true →
        Completes (.clampConfirm i) s fun t =>
          s.OnlyStation t i ∧ (t.st i).drive.nxt = none ∧
            (t.st i).Runs ⟨.render, (s.st i).settings.easeDuty, none,
              .tensionLe ((s.st i).settings.releaseThreshold - 1), false⟩ none ∧
            c.KeepsClamp (t.st i) ∧ c.KeepsViews (t.st i) ∧
            t.st i = { c with drive := (t.st i).drive, easingPhase := some .rendering }) ∧
      ((s.st i).state = .slack → p = .opened → (s.st i).clearRemembered = some true →
        (s.st i).drive.homeClosed = false → (s.st i).drive.payout ≠ some 0 →
        Completes (.clampConfirm i) s fun t =>
          s.OnlyStation t i ∧ c.MovedTo (t.st i) .rewind ∧ c.KeepsTags (t.st i) ∧ c.KeepsClamp (t.st i) ∧
            (t.st i).NoOptions ∧
            (t.st i).Runs ⟨.heave, (s.st i).settings.rewindDuty, none, .homeClosed, true⟩
              (some (s.st i).settings.stallTime) ∧
            s.Reports t i [.entered .rewind]) ∧
      (¬((s.st i).state = .locking ∧ p = .closed) →
        ¬((s.st i).state = .easing ∧ p = .opened ∧ (s.st i).easingPhase = some .opening) →
        ¬((s.st i).state = .slack ∧ p = .opened ∧ (s.st i).clearRemembered = some true) →
        Completes (.clampConfirm i) s fun t => s.OnlyStation t i ∧ t.st i = c)) ∧
    ((s.st i).drive.field.travelling = false → Completes (.clampConfirm i) s fun t => t = s) ∧
    ((s.st i).drive.deadline = none → Completes (.clampTimeout i) s fun t => t = s) ∧
    ((s.st i).drive.deadline.isSome = true → ∀ c : Station,
      c = { s.st i with drive := { (s.st i).drive with field := .unknown, deadline := none } } →
      ((s.st i).state = .locking ∨ (s.st i).state = .easing ∨ (s.st i).state = .tended ∨ (s.st i).state = .slack →
        Completes (.clampTimeout i) s fun t =>
          s.OnlyStation t i ∧ c.Faulted (t.st i) .clamp ∧ s.Reports t i [.entered .fault]) ∧
      ((s.st i).state = .fault →
        Completes (.clampTimeout i) s fun t => s.OnlyStation t i ∧
          t.st i = { c with
            fault := c.fault.map (fun x => ⟨.clamp, x.previous⟩), attn := c.attn.put .fault true }) ∧
      ((s.st i).state ≠ .locking → (s.st i).state ≠ .easing → (s.st i).state ≠ .tended →
        (s.st i).state ≠ .slack → (s.st i).state ≠ .fault →
        Completes (.clampTimeout i) s fun t => s.OnlyStation t i ∧ t.st i = c))

/-- At rest the clamp field follows the switches; a field that leaves OPEN stops a running drive and sends PAYOUT, HEAVE,
TENDED, SLACK, REWIND and an EASING line that renders to FAULT CLAMP; any other line keeps its state. In travel a reading
that is not the commanded position changes nothing but the reading. The ease limit sends EASING to FAULT EASE_LIMIT. That a
change which names the reading already held sets the field by it too is the model's choice, log 23 (R48, R97, R100). -/
def Obligations.TheClampFieldFollowsItsSwitches : Prop :=
  ∀ (i : StationId) (r : SwitchReading) (s : State) (now : ClampField),
    now = (match r with
      | .openOnly => .opened
      | .closedOnly => .closed
      | .neither => .unknown
      | .both => .unknown) →
    ∀ c : Station, c = { s.st i with drive := { (s.st i).drive with reading := r, field := now } } →
    s.inReset = false →
    ((s.st i).drive.field.travelling = false →
      ((s.st i).drive.field ≠ .opened ∨ now = .opened →
        Completes (.clampChange i r) s fun t => s.OnlyStation t i ∧ t.st i = c) ∧
      ((s.st i).drive.field = .opened → now ≠ .opened →
        ((s.st i).state = .payout ∨ (s.st i).state = .heave ∨ (s.st i).state = .tended ∨ (s.st i).state = .slack ∨
            (s.st i).state = .rewind ∨ ((s.st i).state = .easing ∧ (s.st i).easingPhase = some .rendering) →
          Completes (.clampChange i r) s fun t =>
            s.OnlyStation t i ∧ c.Faulted (t.st i) .clamp ∧ s.Reports t i [.entered .fault]) ∧
        ((s.st i).state = .stowed ∨ (s.st i).state = .locking ∨ (s.st i).state = .locked ∨ (s.st i).state = .fault ∨
            (s.st i).state = .halted ∨ ((s.st i).state = .easing ∧ (s.st i).easingPhase ≠ some .rendering) →
          Completes (.clampChange i r) s fun t => s.OnlyStation t i ∧
            t.st i = if (s.st i).drive.mode = .running then { c with drive := c.drive.stop } else c))) ∧
    (∀ p : ClampPosition, (s.st i).drive.command = some p → (s.st i).drive.field = p.travel → r ≠ p.reading →
      Completes (.clampChange i r) s fun t => s.OnlyStation t i ∧
        t.st i = { s.st i with drive := { (s.st i).drive with reading := r } }) ∧
    ((s.st i).easeTimer.isSome = true →
      Completes (.easeLimitExpiry i) s fun t =>
        s.OnlyStation t i ∧ (s.st i).Faulted (t.st i) .easeLimit ∧ s.Reports t i [.entered .fault]) ∧
    ((s.st i).easeTimer = none → Completes (.easeLimitExpiry i) s fun t => t = s)

/-! ### Ship links -/

/-- The receiver's own events. In IDLE a mark that ends within the start limits begins a frame, under the settings in force when
that mark began; the mark that was in progress when the receiver came to IDLE begins none. Pulses whose measure is out of
class are a frame error, which sets FRAME_ERROR, is not answered and reaches no record; a mark still running then is ignored
until it ends. A length byte above 6 is answered BAD_LENGTH after the silence, with the tag as received and no flag; a whole
frame is refused by the first of check, code and length that fails, a bad check with FRAME_ERROR set and an answer only where
ANSWER_ERRORS is ON. The operands that name a mark and its settings, and pulses or frames that make no such event and change
nothing, are the model's, logs 14, 19 and 24 (R182, R184, R185, R187, R189). -/
def Obligations.TheReceiverBeginsRefusesAndDiscardsFrames : Prop :=
  ∀ (f : Face) (s : State) (l : Link), l = (s.face f).link → s.inReset = false →
    (∀ (mark : Pulse) (marks changes : Nat) (u : FaceSettings),
      (changes = 0 ∧ u = (s.face f).settings ∨ ∃ k, changes = k + 1 ∧ l.earlier[k]? = some u) →
      (l.rx = .idle → l.ignoring = false ∨ marks ≠ 0 → (mark.high = true ↔ u.receivePolarity = 1) →
        u.startMin ≤ mark.ns / (125 * u.linkUnit) → mark.ns / (125 * u.linkUnit) ≤ u.startMax →
        Completes (.startMarkAccepted f mark marks changes) s fun t => s.OnlyFace t f ∧
          t.face f = { s.face f with link := { l with rx := .start, ignoring := false, rxSettings := u } }) ∧
      (l.rx ≠ .idle ∨ (l.ignoring = true ∧ marks = 0) ∨ ¬(mark.high = true ↔ u.receivePolarity = 1) ∨
          mark.ns / (125 * u.linkUnit) < u.startMin ∨ u.startMax < mark.ns / (125 * u.linkUnit) →
        Completes (.startMarkAccepted f mark marks changes) s fun t => t = s)) ∧
    (∀ (mark : Pulse) (marks changes : Nat), l.earlier.length < changes →
      Completes (.startMarkAccepted f mark marks changes) s fun t => t = s) ∧
    (l.rx.holdsFrame = true →
      (∀ signal running, l.received signal = .frameError running →
        Completes (.shipFrameError f signal) s fun t => s.OnlyFace t f ∧
          t.face f = { s.face f with
            link := { l with
              rx := .idle, ignoring := running, earlier := [], flags := { l.flags with frameError := true } }
            attn := (s.face f).attn.put .linkError true }) ∧
      (∀ signal, (∀ running, l.received signal ≠ .frameError running) →
        Completes (.shipFrameError f signal) s fun t => t = s) ∧
      (∀ k, receive .start [.space k] = .frameError false ↔ k < 24 ∨ 40 < k) ∧
      (∀ m, receive .start [.space 32, .mark m] = .frameError false ↔ m < 4) ∧
      (∀ m, receive .start [.space 32, .mark m] = .frameError true ↔ 12 < m) ∧
      (∀ k, receive .start [.space 32, .mark 8, .space k] = .frameError false ↔
        k < 4 ∨ (12 < k ∧ k < 20) ∨ 28 < k) ∧
      (∀ (a b code selector n : Byte) (k : Nat) (signal : List Pulse), 6 < n.toNat → 49 ≤ k →
        l.rxSettings.measured signal = (lineElements [a, b, code, selector, n]).dropLast ++ [.mark 8, .space k] →
        Completes (.shipFrameDiscardEnd f signal) s fun t =>
          s.OnlyFace t f ∧ s.ShipAnswers t f (a ++ b) .badLength []) ∧
      (∀ signal, (∀ header, l.received signal ≠ .discardEnd header) →
        Completes (.shipFrameDiscardEnd f signal) s fun t => t = s) ∧
      ∀ (a b code selector n check : Byte) (payload : List Byte), n.toNat ≤ 6 → payload.length = n.toNat →
        (byteSum ([a, b, code, selector, n] ++ payload ++ [check]) ≠ 0 →
          Completes (.shipFrameRefused f ([a, b, code, selector, n] ++ payload ++ [check])) s fun t =>
            s.OnlyFace t f ∧ (t.face f).link.rx = .idle ∧
              (t.face f).link.flags = { (s.face f).link.flags with frameError := true } ∧
              (t.face f).attn = (s.face f).attn.put .linkError true ∧
              ((s.face f).link.rxSettings.answerErrors ≠ 1 →
                (t.face f).link.current = (s.face f).link.current ∧
                  (t.face f).link.waiting = (s.face f).link.waiting) ∧
              ((s.face f).link.rxSettings.answerErrors = 1 → (s.face f).link.current = none →
                (t.face f).link.current = some ⟨a ++ b, ⟨.badCheck, []⟩⟩) ∧
              ((s.face f).link.rxSettings.answerErrors = 1 → (s.face f).link.current.isSome = true →
                (t.face f).link.current = (s.face f).link.current ∧
                  (t.face f).link.waiting = some ⟨a ++ b, ⟨.badCheck, []⟩⟩)) ∧
        (byteSum ([a, b, code, selector, n] ++ payload ++ [check]) = 0 →
          ((∀ r ∈ shipTable, r.1 ≠ code.toNat) →
            Completes (.shipFrameRefused f ([a, b, code, selector, n] ++ payload ++ [check])) s fun t =>
              s.OnlyFace t f ∧ s.ShipAnswers t f (a ++ b) .unknownRequest []) ∧
          ∀ r ∈ shipTable, r.1 = code.toNat →
            (r.2 ≠ payload.length →
              Completes (.shipFrameRefused f ([a, b, code, selector, n] ++ payload ++ [check])) s fun t =>
                s.OnlyFace t f ∧ s.ShipAnswers t f (a ++ b) .badLength []) ∧
            (r.2 = payload.length →
              Completes (.shipFrameRefused f ([a, b, code, selector, n] ++ payload ++ [check])) s fun t => t = s)))

/-- The transmitter: an answer handed over takes the empty current slot, else the pending slot, where one that waited is
lost. A due answer begins when the receiver holds no frame, under the settings in force then, and blanks it; at its end the
waiting answer becomes current and begins in the same way, or the slot empties; after the turnaround the receiver hunts again,
and a mark in progress is ignored until it ends. IRTX carries the line code of the frame being sent: the carrier from the
beginning of each mark, the inactive level in spaces, when nothing is sent and in reset. Elsewhere the three events change
nothing. The polarity between frames and the level operand of the turnaround are the model's reading, log 14 (R182, R183, R186,
R188, Table 11-1). -/
def Obligations.TheTransmitterSendsItsTwoSlots : Prop :=
  ∀ (f : Face) (s : State) (l : Link), l = (s.face f).link →
    (∀ x : TxFrame,
      (l.current = none → l.handOver x = { l with current := some x }) ∧
        (l.current.isSome = true → l.handOver x = { l with waiting := some x })) ∧
    (s.inReset = false →
      (l.current.isSome = true → l.sending = false → l.rx.holdsFrame = false →
        Completes (.answerTransmitStart f) s fun t => s.OnlyFace t f ∧
          t.face f = { s.face f with
            link := { l with rx := .blanked, sending := true, txSettings := (s.face f).settings } }) ∧
      (l.current = none ∨ l.sending = true ∨ l.rx.holdsFrame = true →
        Completes (.answerTransmitStart f) s fun t => t = s) ∧
      (l.sending = true →
        Completes (.answerSent f) s fun t => s.OnlyFace t f ∧
          t.face f = { s.face f with
            link := { l with current := l.waiting, waiting := none, sending := false } }) ∧
      (l.sending = false → Completes (.answerSent f) s fun t => t = s) ∧
      ∀ high : Bool,
        (l.rx = .blanked → l.sending = false → l.current = none →
          Completes (.turnaroundEnd f high) s fun t => s.OnlyFace t f ∧
            t.face f = { s.face f with
              link := { l with
                rx := .idle, ignoring := high == decide ((s.face f).settings.receivePolarity = 1)
                earlier := [] } }) ∧
        (l.rx ≠ .blanked ∨ l.sending = true ∨ l.current ≠ none →
          Completes (.turnaroundEnd f high) s fun t => t = s)) ∧
    ∀ u : FaceSettings, u = l.txSettings →
      (∀ time, s.inReset = true ∨ l.sending = false → s.irtx f time = !decide (u.transmitPolarity = 0)) ∧
      (s.inReset = false → l.sending = true → ∀ x, l.current = some x →
        ∀ (before after : List Element) (ticks time : Nat), time < ticks * (125 * u.linkUnit) →
        ∀ start, start = elementsLength before * (125 * u.linkUnit) →
        (frameElements x.bytes = before ++ .mark ticks :: after →
          s.irtx f (start + time) =
            (decide (time % (100 * u.carrierPeriod) < 100 * u.carrierHigh) == decide (u.transmitPolarity = 0))) ∧
        (frameElements x.bytes = before ++ .space ticks :: after →
          s.irtx f (start + time) = !decide (u.transmitPolarity = 0)))

/-! ### Invariants that every step keeps -/

/-- The part right after reset meets every law below. -/
def Obligations.ResetMeetsEveryLaw : Prop :=
  State.reset.Every Station.HoldLaw ∧ State.reset.Every Station.FieldLaw ∧ State.reset.Every Station.DriveLaw ∧
    State.reset.Every Station.ClampLaw ∧ State.reset.Every Station.TagLaw ∧ State.reset.Every Station.SampleLaw ∧
    State.reset.Every Station.LevelLaw ∧ State.reset.Every Station.PayoutLaw ∧ State.reset.ResetLaw ∧
    State.reset.WindowLaw ∧ State.reset.VacantLaw ∧ State.reset.UniqueTags ∧ State.reset.GrantLaw ∧
    State.reset.LinkErrorLaw ∧ State.reset.PortLaw ∧
    ∀ f, (State.reset.seq f).WalkLaw ∧ (State.reset.seq f).WidthLaw ∧ (State.reset.seq f).TimerLaw ∧
      (State.reset.face f).DepartureLaw ∧ (State.reset.face f).link.SlotLaw

/-- Every step keeps: the drive runs exactly while a segment is current, and only with the clamp field OPEN; both slots are
empty in STOWED, LOCKED, SLACK, FAULT and HALTED; a deadline runs exactly while the clamp travels toward its command
(R85, R97). -/
def Obligations.EveryStepKeepsDriveAndClampInOrder : Prop :=
  ∀ s t : State, s.ResetLaw → s.Every Station.DriveLaw → s.Every Station.ClampLaw → step s = .next t →
    t.ResetLaw ∧ t.Every Station.DriveLaw ∧ t.Every Station.ClampLaw

/-- Every step keeps, for each record: at most two holds, and none in a state with an empty stack; each optional field in
its own line state alone; at most four samples, none while the sensor is FAILED, none above 1000.0 kN; a level condition
pending only in a state it belongs to; the payout from 0.00 to 250.00 m (R7, R13, R45, R63 to R67, R91). -/
def Obligations.EveryStepKeepsTheRecordsInOrder : Prop :=
  ∀ s t : State, s.Every Station.HoldLaw → s.Every Station.FieldLaw → s.Every Station.SampleLaw →
    s.Every Station.LevelLaw → s.Every Station.PayoutLaw → step s = .next t →
    t.Every Station.HoldLaw ∧ t.Every Station.FieldLaw ∧ t.Every Station.SampleLaw ∧ t.Every Station.LevelLaw ∧
      t.Every Station.PayoutLaw

/-- Every step keeps: the two windows are valid and share no station, no fitting tag is carried twice in a window, a band is
valid, a STOWED or HALTED record carries no tag; a face is VACANT exactly while its tag is 0, has a window otherwise, and no
tag stands at both faces (R3, R4, R5, R105, R108, R115). Each optional field of a record stands in its own line state alone, in
the premise and in the conclusion (R7, R45, R56). -/
def Obligations.EveryStepKeepsWindowsTagsAndGrants : Prop :=
  ∀ s t : State, s.Every Station.FieldLaw → s.Every Station.TagLaw → s.WindowLaw → s.UniqueTags → s.GrantLaw →
    step s = .next t →
    t.Every Station.FieldLaw ∧ t.Every Station.TagLaw ∧ t.WindowLaw ∧ t.UniqueTags ∧ t.GrantLaw

/-- Every step keeps: while a face is VACANT, no record in its window is in PAYOUT, HEAVE, TENDED, LOCKING, LOCKED or EASING
(R112). The windows are apart and valid in the premise and in the conclusion. -/
def Obligations.EveryStepKeepsVacantWindowsClear : Prop :=
  ∀ s t : State, s.WindowLaw → s.VacantLaw → step s = .next t → t.WindowLaw ∧ t.VacantLaw

/-- Every step keeps, for each face: no station is listed twice, entries before the cursor have left WAITING and BLOCKED, the
one at the cursor is WAITING or BLOCKED and those after it are WAITING, the entries in progress never exceed the width, a step
timer runs only in an entry in progress of an active plan, and a DEPARTING face has a RUNNING or PAUSED sequencer (R107, R111,
R121, R127, R128, R130, R135). -/
def Obligations.EveryStepKeepsPlansInOrder : Prop :=
  ∀ s t : State,
    (∀ f, (s.seq f).WalkLaw ∧ (s.seq f).WidthLaw ∧ (s.seq f).TimerLaw ∧ (s.face f).DepartureLaw) → step s = .next t →
    ∀ f, (t.seq f).WalkLaw ∧ (t.seq f).WidthLaw ∧ (t.seq f).TimerLaw ∧ (t.face f).DepartureLaw

/-- Every step keeps: in reset everything stands at its reset values; LINK_ERROR is pending exactly while a link status flag
of the face is set; the transmitter sends only what stands in its current slot, with the receiver BLANKED, and an answer waits
only behind a current one; the shore port is IDLE while SEL_N is high, holds an answer exactly while ANSWERING and bits of a
request only while RECEIVING, counted (R158, R167, R174, R186, R188, R189). -/
def Obligations.EveryStepKeepsLinksAndPort : Prop :=
  ∀ s t : State, s.ResetLaw → s.LinkErrorLaw → (∀ f, (s.face f).link.SlotLaw) → s.PortLaw → step s = .next t →
    t.ResetLaw ∧ t.LinkErrorLaw ∧ (∀ f, (t.face f).link.SlotLaw) ∧ t.PortLaw
end

