-- ==== Sys2Proof/Laws/State.lean ====
section
/-! SUPPORT. One lemma per field per update of State: what each named write leaves in each part of the state. -/

namespace Sys2Proof.Machine

/-! ### Two states are equal when their parts are -/

theorem State.ext_parts {s t : State} (hp : s.pending = t.pending) (hr : s.inReset = t.inReset)
    (hs : ∀ i, s.st i = t.st i) (hf : ∀ f, s.face f = t.face f) (hu : s.urgentMasked = t.urgentMasked)
    (ho : s.routineMasked = t.routineMasked) (hport : s.shore = t.shore) : s = t := by
  cases s with | mk p r v n m u o q =>
  cases t with | mk p' r' v' n' m' u' o' q' =>
  have hv : v = v' := by
    apply Vector.ext
    intro k hk
    exact hs ⟨k, hk⟩
  have hn : n = n' := hf .north
  have hm : m = m' := hf .south
  simp only at hp hr hu ho hport
  subst hp hr hv hn hm hu ho hport
  rfl

/-! ### setSt -/

@[simp] theorem State.st_setSt_same (s : State) (i : StationId) (c : Station) : (s.setSt i c).st i = c := by
  simp [State.st, State.setSt]

@[simp] theorem State.st_setSt_ne (s : State) {i j : StationId} (c : Station) (h : j ≠ i) :
    (s.setSt i c).st j = s.st j := by
  have h' : i.val ≠ j.val := fun e => h (Fin.ext e.symm)
  simp [State.st, State.setSt, h']

theorem State.st_setSt (s : State) (i j : StationId) (c : Station) :
    (s.setSt i c).st j = if j = i then c else s.st j := by
  by_cases h : j = i
  · subst h; simp
  · simp [h]

@[simp] theorem State.face_setSt (s : State) (i : StationId) (c : Station) (f : Face) :
    (s.setSt i c).face f = s.face f := by cases f <;> rfl

@[simp] theorem State.pending_setSt (s : State) (i : StationId) (c : Station) :
    (s.setSt i c).pending = s.pending := rfl

@[simp] theorem State.inReset_setSt (s : State) (i : StationId) (c : Station) :
    (s.setSt i c).inReset = s.inReset := rfl

@[simp] theorem State.urgentMasked_setSt (s : State) (i : StationId) (c : Station) :
    (s.setSt i c).urgentMasked = s.urgentMasked := rfl

@[simp] theorem State.routineMasked_setSt (s : State) (i : StationId) (c : Station) :
    (s.setSt i c).routineMasked = s.routineMasked := rfl

@[simp] theorem State.shore_setSt (s : State) (i : StationId) (c : Station) : (s.setSt i c).shore = s.shore := rfl

@[simp] theorem State.northFace_setSt (s : State) (i : StationId) (c : Station) :
    (s.setSt i c).northFace = s.northFace := rfl

@[simp] theorem State.southFace_setSt (s : State) (i : StationId) (c : Station) :
    (s.setSt i c).southFace = s.southFace := rfl

@[simp] theorem State.setSt_self (s : State) (i : StationId) : s.setSt i (s.st i) = s := by
  refine State.ext_parts rfl rfl (fun j => ?_) (fun f => State.face_setSt s i _ f) rfl rfl rfl
  by_cases h : j = i
  · subst h; exact State.st_setSt_same s j _
  · exact State.st_setSt_ne s _ h

@[simp] theorem State.faceOf_setSt (s : State) (i j : StationId) (c : Station) :
    (s.setSt i c).faceOf j = s.faceOf j := rfl

/-! ### setFace and onFace -/

@[simp] theorem State.face_setFace_same (s : State) (f : Face) (x : FaceState) : (s.setFace f x).face f = x := by
  cases f <;> rfl

@[simp] theorem State.face_setFace_ne (s : State) {f g : Face} (x : FaceState) (h : g ≠ f) :
    (s.setFace f x).face g = s.face g := by
  cases f <;> cases g <;> first | rfl | exact absurd rfl h

@[simp] theorem State.st_setFace (s : State) (f : Face) (x : FaceState) (i : StationId) :
    (s.setFace f x).st i = s.st i := by cases f <;> rfl

@[simp] theorem State.pending_setFace (s : State) (f : Face) (x : FaceState) :
    (s.setFace f x).pending = s.pending := by cases f <;> rfl

@[simp] theorem State.inReset_setFace (s : State) (f : Face) (x : FaceState) :
    (s.setFace f x).inReset = s.inReset := by cases f <;> rfl

@[simp] theorem State.urgentMasked_setFace (s : State) (f : Face) (x : FaceState) :
    (s.setFace f x).urgentMasked = s.urgentMasked := by cases f <;> rfl

@[simp] theorem State.routineMasked_setFace (s : State) (f : Face) (x : FaceState) :
    (s.setFace f x).routineMasked = s.routineMasked := by cases f <;> rfl

@[simp] theorem State.shore_setFace (s : State) (f : Face) (x : FaceState) : (s.setFace f x).shore = s.shore := by
  cases f <;> rfl

@[simp] theorem State.face_onFace_same (s : State) (f : Face) (g : FaceState → FaceState) :
    (s.onFace f g).face f = g (s.face f) := by simp [State.onFace]

@[simp] theorem State.face_onFace_ne (s : State) {f h : Face} (g : FaceState → FaceState) (ne : h ≠ f) :
    (s.onFace f g).face h = s.face h := by simp [State.onFace, ne]

@[simp] theorem State.st_onFace (s : State) (f : Face) (g : FaceState → FaceState) (i : StationId) :
    (s.onFace f g).st i = s.st i := by simp [State.onFace]

@[simp] theorem State.pending_onFace (s : State) (f : Face) (g : FaceState → FaceState) :
    (s.onFace f g).pending = s.pending := by simp [State.onFace]

@[simp] theorem State.inReset_onFace (s : State) (f : Face) (g : FaceState → FaceState) :
    (s.onFace f g).inReset = s.inReset := by simp [State.onFace]

@[simp] theorem State.urgentMasked_onFace (s : State) (f : Face) (g : FaceState → FaceState) :
    (s.onFace f g).urgentMasked = s.urgentMasked := by simp [State.onFace]

@[simp] theorem State.routineMasked_onFace (s : State) (f : Face) (g : FaceState → FaceState) :
    (s.onFace f g).routineMasked = s.routineMasked := by simp [State.onFace]

@[simp] theorem State.shore_onFace (s : State) (f : Face) (g : FaceState → FaceState) :
    (s.onFace f g).shore = s.shore := by simp [State.onFace]

/-! ### onSeq, latchFace, raiseFlag, leaveFrame, shipAnswer: each is an `onFace` -/

@[simp] theorem State.seq_onSeq_same (s : State) (f : Face) (g : Sequencer → Sequencer) :
    (s.onSeq f g).seq f = g (s.seq f) := by simp [State.onSeq, State.seq]

@[simp] theorem State.seq_onSeq_ne (s : State) {f h : Face} (g : Sequencer → Sequencer) (ne : h ≠ f) :
    (s.onSeq f g).seq h = s.seq h := by simp [State.onSeq, State.seq, ne]

@[simp] theorem State.st_onSeq (s : State) (f : Face) (g : Sequencer → Sequencer) (i : StationId) :
    (s.onSeq f g).st i = s.st i := by simp [State.onSeq]

@[simp] theorem State.seq_setSt (s : State) (i : StationId) (c : Station) (f : Face) :
    (s.setSt i c).seq f = s.seq f := by simp [State.seq]

theorem State.latchFace_eq (s : State) (f : Face) (k : FaceCondition) :
    s.latchFace f k = s.onFace f fun x => { x with attn := x.attn.put k true } := rfl

theorem State.raiseFlag_eq (s : State) (f : Face) (k : LinkFlag) :
    s.raiseFlag f k = s.onFace f fun x => x.withFlags (x.link.flags.raise k) := rfl

theorem State.leaveFrame_eq (s : State) (f : Face) (running : Bool) :
    s.leaveFrame f running = s.onFace f fun x => { x with
      link := { x.link with rx := .idle, ignoring := running, earlier := [] } } := rfl

theorem State.shipAnswer_eq (s : State) (f : Face) (tag : Half) (a : Answer) :
    s.shipAnswer f tag a = s.onFace f fun x => { x with link := x.link.handOver ⟨tag, a⟩ } := rfl

/-! ### mapStations -/

@[simp] theorem State.st_mapStations (s : State) (p : StationId → Bool) (g : Station → Station) (i : StationId) :
    (s.mapStations p g).st i = if p i then g (s.st i) else s.st i := by
  simp [State.mapStations, State.st]

@[simp] theorem State.face_mapStations (s : State) (p : StationId → Bool) (g : Station → Station) (f : Face) :
    (s.mapStations p g).face f = s.face f := by cases f <;> simp only [State.mapStations, State.face]

@[simp] theorem State.pending_mapStations (s : State) (p : StationId → Bool) (g : Station → Station) :
    (s.mapStations p g).pending = s.pending := by simp only [State.mapStations]

@[simp] theorem State.inReset_mapStations (s : State) (p : StationId → Bool) (g : Station → Station) :
    (s.mapStations p g).inReset = s.inReset := by simp only [State.mapStations]

@[simp] theorem State.shore_mapStations (s : State) (p : StationId → Bool) (g : Station → Station) :
    (s.mapStations p g).shore = s.shore := by simp only [State.mapStations]

/-! ### shoreAnswer -/

@[simp] theorem State.st_shoreAnswer (s : State) (n : Nat) (o : Bool) (a : Answer) (i : StationId) :
    (s.shoreAnswer n o a).st i = s.st i := rfl

@[simp] theorem State.face_shoreAnswer (s : State) (n : Nat) (o : Bool) (a : Answer) (f : Face) :
    (s.shoreAnswer n o a).face f = s.face f := by cases f <;> rfl

@[simp] theorem State.pending_shoreAnswer (s : State) (n : Nat) (o : Bool) (a : Answer) :
    (s.shoreAnswer n o a).pending = s.pending := rfl

@[simp] theorem State.inReset_shoreAnswer (s : State) (n : Nat) (o : Bool) (a : Answer) :
    (s.shoreAnswer n o a).inReset = s.inReset := rfl

@[simp] theorem State.urgentMasked_shoreAnswer (s : State) (n : Nat) (o : Bool) (a : Answer) :
    (s.shoreAnswer n o a).urgentMasked = s.urgentMasked := rfl

@[simp] theorem State.routineMasked_shoreAnswer (s : State) (n : Nat) (o : Bool) (a : Answer) :
    (s.shoreAnswer n o a).routineMasked = s.routineMasked := rfl

theorem State.shore_shoreAnswer (s : State) (n : Nat) (o : Bool) (a : Answer) :
    (s.shoreAnswer n o a).shore = { s.shore with
      phase := .answering, bitCount := 8 * n, received := [], answer := some a, atOnce := o } := rfl

/-! ### Attention sets -/

@[simp] theorem StationAttn.has_put_same (a : StationAttn) (k : StationCondition) (b : Bool) :
    (a.put k b).has k = b := by cases k <;> rfl

@[simp] theorem StationAttn.has_put_ne (a : StationAttn) {k j : StationCondition} (b : Bool) (h : j ≠ k) :
    (a.put k b).has j = a.has j := by
  cases k <;> cases j <;> first | rfl | exact absurd rfl h

@[simp] theorem FaceAttn.has_put_same (a : FaceAttn) (k : FaceCondition) (b : Bool) : (a.put k b).has k = b := by
  cases k <;> rfl

@[simp] theorem FaceAttn.has_put_ne (a : FaceAttn) {k j : FaceCondition} (b : Bool) (h : j ≠ k) :
    (a.put k b).has j = a.has j := by
  cases k <;> cases j <;> first | rfl | exact absurd rfl h

/-! ### Settings -/

@[simp] theorem StationSettings.get_put_same (t : StationSettings) (k : StationItem) (v : Nat) :
    (t.put k v).get k = v := by cases k <;> rfl

theorem StationSettings.get_put_ne (t : StationSettings) {k j : StationItem} (v : Nat) (h : j ≠ k) :
    (t.put k v).get j = t.get j := by
  cases k <;> first
    | (cases j <;> first | rfl | exact absurd rfl h)

@[simp] theorem FaceSettings.get_put_same (t : FaceSettings) (k : FaceItem) (v : Nat) : (t.put k v).get k = v := by
  cases k <;> rfl

theorem FaceSettings.get_put_ne (t : FaceSettings) {k j : FaceItem} (v : Nat) (h : j ≠ k) :
    (t.put k v).get j = t.get j := by
  cases k <;> cases j <;> first | rfl | exact absurd rfl h

end Sys2Proof.Machine
end

