-- ==== Sys2Proof/Laws/Ops.lean ====
section
/-! SUPPORT. How each kind of command is let in, said once: the shape of its outcome and what it leaves alone. -/

namespace Sys2Proof.Machine

/-! ### step -/

theorem step_front {c : Instr} {rest : List Instr} {s : State} (h : s.pending = c :: rest) :
    step s = exec c { s with pending := rest } := by
  simp only [step, h]

/-! ### live, stationEvent -/

theorem live_running {s : State} (h : s.inReset = false) (k : State → State) : live s k = .next (k s) := by
  simp [live, h]

theorem live_reset {s : State} (h : s.inReset = true) (k : State → State) : live s k = .next s := by
  simp [live, h]

theorem live_next_iff {s t : State} {k : State → State} :
    live s k = .next t ↔ (s.inReset = true ∧ t = s) ∨ (s.inReset = false ∧ t = k s) := by
  cases h : s.inReset <;> simp [live, h, eq_comm]

theorem stationEvent_running {s : State} (h : s.inReset = false) (i : StationId) (g : Station → Station) :
    stationEvent i g s = .next (s.onLine i g) := live_running h _

/-! ### onLine -/

theorem State.st_onLine_same (s : State) (i : StationId) (g : Station → Station) :
    (s.onLine i g).st i =
      if s.heard i then g (s.st i) else { g (s.st i) with toSequencer := (s.st i).toSequencer } := by
  simp only [State.onLine]
  split <;> simp

@[simp] theorem State.st_onLine_ne (s : State) {i j : StationId} (g : Station → Station) (h : j ≠ i) :
    (s.onLine i g).st j = s.st j := by simp [State.onLine, h]

@[simp] theorem State.face_onLine (s : State) (i : StationId) (g : Station → Station) (f : Face) :
    (s.onLine i g).face f = s.face f := by simp [State.onLine]

@[simp] theorem State.seq_onLine (s : State) (i : StationId) (g : Station → Station) (f : Face) :
    (s.onLine i g).seq f = s.seq f := by simp [State.seq]

@[simp] theorem State.pending_onLine (s : State) (i : StationId) (g : Station → Station) :
    (s.onLine i g).pending = s.pending := rfl

@[simp] theorem State.inReset_onLine (s : State) (i : StationId) (g : Station → Station) :
    (s.onLine i g).inReset = s.inReset := rfl

@[simp] theorem State.urgentMasked_onLine (s : State) (i : StationId) (g : Station → Station) :
    (s.onLine i g).urgentMasked = s.urgentMasked := rfl

@[simp] theorem State.routineMasked_onLine (s : State) (i : StationId) (g : Station → Station) :
    (s.onLine i g).routineMasked = s.routineMasked := rfl

@[simp] theorem State.shore_onLine (s : State) (i : StationId) (g : Station → Station) :
    (s.onLine i g).shore = s.shore := rfl

/-- Every field of the record but its reports is what the claim makes it. -/
theorem State.st_onLine_field {α : Type} (s : State) (i : StationId) (g : Station → Station) (view : Station → α)
    (h : ∀ c q, view { c with toSequencer := q } = view c) : view ((s.onLine i g).st i) = view (g (s.st i)) := by
  rw [State.st_onLine_same]
  split
  · rfl
  · exact h _ _

/-- The reports a claim adds are kept where they are heard. -/
theorem State.reports_onLine (s : State) (i : StationId) (g : Station → Station) (new : List LineReport)
    (h : (g (s.st i)).toSequencer = (s.st i).toSequencer ++ new) : s.Reports (s.onLine i g) i new := by
  rw [State.Reports, State.st_onLine_same]
  by_cases hh : s.heard i = true <;> simp [hh, h]

/-- A claim on one record leaves every other record, both faces and the port. -/
theorem State.onlyStation_onLine (s : State) (i : StationId) (g : Station → Station) :
    s.OnlyStation (s.onLine i g) i := by
  refine ⟨⟨?_, ?_, rfl, rfl, rfl, rfl⟩, rfl⟩
  · intro j hj
    exact State.st_onLine_ne s g (by simpa using hj)
  · intro f _
    exact State.face_onLine s i g f

theorem State.onLine_of_eq {s : State} {i : StationId} {g : Station → Station} (h : g (s.st i) = s.st i) :
    s.onLine i g = s := by
  have : (if s.heard i then g (s.st i) else { g (s.st i) with toSequencer := (s.st i).toSequencer }) = s.st i := by
    rw [h]; split <;> rfl
  simp only [State.onLine, this, State.setSt_self]

/-- What an event of one station does, once. -/
theorem stationEvent_completes {s : State} (h : s.inReset = false) (i : StationId) (g : Station → Station)
    {c : Instr} (hc : exec c s = stationEvent i g s) {after : State → Prop} (ha : after (s.onLine i g)) :
    Completes c s after := ⟨_, hc.trans (stationEvent_running h i g), ha⟩

/-! ### Host requests -/

theorem length_shoreFrame (code target : Byte) (payload : List Byte) :
    (shoreFrame code target payload).length = payload.length + 4 := by
  simp [shoreFrame]

/-- The frame of a host request, and its length. -/
theorem shoreFrameOf_eq {i : Instr} {r : Byte × Byte × List Byte} (h : shoreRequest i = some r) :
    shoreFrameOf i = some (shoreFrame r.1 r.2.1 r.2.2) := by
  simp [shoreFrameOf, h]

theorem State.clearBits_of_nil {s : State} (h : s.shore.received = []) : s.clearBits = s := by
  simp [State.clearBits, ← h]

/-- A port with no bit of another frame takes every frame. -/
theorem ShorePort.takes_ready {p : ShorePort} (h : p.phase = .receiving) (hr : p.received = []) (frame : List Byte) :
    p.takes frame = true := by
  simp [ShorePort.takes, h, hr]

theorem hostRequest_ready {s : State} (h : s.HostReady) {i : Instr} {r : Byte × Byte × List Byte}
    (hi : shoreRequest i = some r) (k : State → State × Answer) :
    hostRequest i k s = .next ((k s).1.shoreAnswer (r.2.2.length + 4) false (k s).2) := by
  simp [hostRequest, live, h.1, shoreFrameOf_eq hi, ShorePort.takes_ready h.2.1 h.2.2, length_shoreFrame,
    State.clearBits_of_nil h.2.2]

theorem hostRequest_other {s : State} (h : s.shore.phase ≠ .receiving) (i : Instr) (k : State → State × Answer) :
    hostRequest i k s = .next s := by
  cases hr : s.inReset <;> cases hf : shoreFrameOf i <;> simp [hostRequest, live, ShorePort.takes, h, hr, hf]

/-- Bits clocked ahead make no difference when they begin the frame, and nothing is taken when they do not (R174). -/
theorem hostRequest_bits {s : State} {i : Instr} {frame : List Byte} (hf : shoreFrameOf i = some frame)
    (k : State → State × Answer) (hr : s.inReset = false) :
    hostRequest i k s =
      .next (if s.shore.takes frame then (k s.clearBits).1.shoreAnswer frame.length false (k s.clearBits).2
        else s) := by
  simp [hostRequest, live, hf, hr]

theorem hostLine_ready {s : State} (h : s.HostReady) {c : Instr} {r : Byte × Byte × List Byte}
    (hc : shoreRequest c = some r) (i : StationId) (g : Station → Station × Answer) :
    hostLine c i g s =
      .next ((s.onLine i fun _ => (g (s.st i)).1).shoreAnswer (r.2.2.length + 4) false (g (s.st i)).2) :=
  hostRequest_ready h hc _

theorem State.onlyPort_shoreAnswer (s : State) (n : Nat) (o : Bool) (a : Answer) :
    s.OnlyPort (s.shoreAnswer n o a) :=
  ⟨fun i _ => State.st_shoreAnswer s n o a i, fun f _ => State.face_shoreAnswer s n o a f, rfl, rfl, rfl, rfl⟩

/-- An owner's refusal of a host request: the answer carries no payload and nothing else changes. -/
theorem State.refuses_shoreAnswer (s : State) (n : Nat) {status : Status} (h : status.ofPort = false) :
    s.Refuses (s.shoreAnswer (n + 4) false (refusal status)) n status := by
  refine ⟨s.onlyPort_shoreAnswer _ _ _, ?_⟩
  rw [State.Answers, h]
  rfl

/-- A host request that its record's rule refuses leaves the record as it was. -/
theorem hostLine_refuses {s : State} (h : s.HostReady) {c : Instr} {r : Byte × Byte × List Byte}
    (hc : shoreRequest c = some r) {i : StationId} {g : Station → Station × Answer} {status : Status}
    (hg : g (s.st i) = (s.st i, refusal status)) :
    hostLine c i g s = .next (s.shoreAnswer (r.2.2.length + 4) false (refusal status)) := by
  rw [hostLine_ready h hc, hg]
  simp [State.onLine_of_eq]

/-- A host request on one line leaves every other record, the faces and the masks. -/
theorem State.onlyStationAndPort_answer (s : State) (i : StationId) (g : Station → Station) (n : Nat) (o : Bool)
    (a : Answer) : s.OnlyStationAndPort ((s.onLine i g).shoreAnswer n o a) i := by
  refine ⟨?_, ?_, rfl, rfl, rfl, rfl⟩
  · intro j hj
    rw [State.st_shoreAnswer]
    exact State.st_onLine_ne s g (by simpa using hj)
  · intro f _
    rw [State.face_shoreAnswer]
    exact State.face_onLine s i g f

/-! ### Ship requests -/

theorem shipFrame_nothing {s : State} {f : Face} (h : (s.face f).link.rx.holdsFrame = false) (tag : Half)
    (mooring : Bool) (k : State → Except AccessRefusal (State × Answer)) :
    shipFrame f tag mooring k s = .next s := by
  cases hr : s.inReset <;> simp [shipFrame, live, h, hr]

@[simp] theorem State.st_leaveFrame (s : State) (f : Face) (running : Bool) (i : StationId) :
    (s.leaveFrame f running).st i = s.st i := by
  simp [State.leaveFrame]

theorem State.face_leaveFrame (s : State) (f : Face) (running : Bool) :
    (s.leaveFrame f running).face f = { s.face f with
      link := { (s.face f).link with rx := .idle, ignoring := running, earlier := [] } } := by
  simp [State.leaveFrame, Link.hunt]

/-- The access check passes for a ship that is ready (R115, R116). -/
theorem State.access_ready {s : State} {f : Face} {tag : Half} (h : s.ShipReady f tag) {mooring : Bool}
    (hm : mooring = true → s.MooringServed f) : ((s.leaveFrame f).face f).access mooring tag = none := by
  rcases h with ⟨_, _, hg, ht⟩
  rw [State.face_leaveFrame]
  have hg' : ¬(s.face f).grant = .vacant := hg
  have ht' : ¬tag ≠ (s.face f).tag := fun n => n ht
  cases mooring with
  | false => simp [FaceState.access, hg', ht]
  | true =>
    rcases hm rfl with h1 | h1 <;> simp [FaceState.access, h1, ht]

/-- A ship request that passes the access check is decided by its rule on the part after the frame has been left. -/
theorem shipFrame_ready {s : State} {f : Face} {tag : Half} (h : s.ShipReady f tag) {mooring : Bool}
    (hm : mooring = true → s.MooringServed f) (k : State → Except AccessRefusal (State × Answer)) :
    shipFrame f tag mooring k s = .next
      (match k (s.leaveFrame f) with
        | .error r => (s.leaveFrame f).refuseShip f tag r
        | .ok r => r.1.shipAnswer f tag r.2) := by
  have ha := State.access_ready h hm
  simp only [shipFrame, live, h.1, h.2.1, ha]
  rfl

end Sys2Proof.Machine
end

