-- ==== Sys2Proof/Laws/Line.lean ====
section
/-! SUPPORT. What the line controller's operations can do, said once each: what a change of state leaves, what an entry
gives, and what no end of a segment ever touches. -/

namespace Sys2Proof.Machine

/-! ### A record's quantities that no line-controller action moves -/

/-- Payout, overrun, decoder, home status, switch reading, settings, release claims, clamp command, clamp field, deadline and the
hold stack are kept. -/
def Station.KeepsGround (c d : Station) : Prop := c.KeepsViews d ∧ c.KeepsClamp d ∧ d.holds = c.holds

theorem Station.KeepsGround.refl (c : Station) : c.KeepsGround c :=
  ⟨⟨rfl, rfl, rfl, rfl, rfl, rfl, rfl, rfl⟩, ⟨rfl, rfl, rfl⟩, rfl⟩

theorem Station.KeepsGround.trans {a b c : Station} (h : a.KeepsGround b) (k : b.KeepsGround c) :
    a.KeepsGround c := by
  obtain ⟨⟨h1, h2, h3, h4, h5, h6, h11, h12⟩, ⟨h7, h8, h9⟩, h10⟩ := h
  obtain ⟨⟨k1, k2, k3, k4, k5, k6, k11, k12⟩, ⟨k7, k8, k9⟩, k10⟩ := k
  exact ⟨⟨k1.trans h1, k2.trans h2, k3.trans h3, k4.trans h4, k5.trans h5, k6.trans h6, k11.trans h11, k12.trans h12⟩,
    ⟨k7.trans h7, k8.trans h8, k9.trans h9⟩, k10.trans h10⟩

theorem Station.keepsGround_latch (c : Station) (k : StationCondition) : c.KeepsGround (c.latch k) :=
  Station.KeepsGround.refl c

theorem Station.keepsGround_change (c : Station) (new : LineState) : c.KeepsGround (c.change new) := by
  by_cases h : new = .slack
  · subst h; exact Station.KeepsGround.refl c
  · simp only [Station.KeepsGround, Station.KeepsViews, Station.KeepsClamp, Station.change, h, if_false, Drive.stop]
    trivial

theorem Station.keepsGround_enterFault (c : Station) (cause : FaultCause) : c.KeepsGround (c.enterFault cause) :=
  c.keepsGround_change .fault

theorem Station.keepsGround_enterStowed (c : Station) : c.KeepsGround c.enterStowed := c.keepsGround_change .stowed

theorem Station.keepsGround_takeHomeClosed (c : Station) : c.KeepsGround c.takeHomeClosed := by
  unfold Station.takeHomeClosed
  split
  · exact c.keepsGround_enterFault _
  · exact c.keepsGround_enterStowed
  · exact Station.KeepsGround.refl c

theorem Station.keepsGround_takeConditionEnd (c : Station) (g : Segment) : c.KeepsGround (c.takeConditionEnd g) := by
  unfold Station.takeConditionEnd
  split
  · exact Station.KeepsGround.refl c
  · split
    · exact Station.KeepsGround.refl c
    · exact c.keepsGround_change _
  · exact c.keepsGround_change _
  · exact c.keepsGround_enterStowed
  · exact Station.KeepsGround.refl c

theorem Station.keepsGround_takeStall (c : Station) : c.KeepsGround c.takeStall := by
  unfold Station.takeStall
  split
  · exact c.keepsGround_enterFault _
  · exact c.keepsGround_enterFault _
  · exact c.keepsGround_enterFault _
  · exact Station.KeepsGround.refl c

theorem Station.keepsGround_stop (c : Station) : c.KeepsGround { c with drive := c.drive.stop } :=
  Station.KeepsGround.refl c

theorem Station.keepsGround_promote (c : Station) (n : Nat) : c.KeepsGround { c with drive := c.drive.promote n } := by
  simp only [Drive.promote]
  split <;> exact Station.KeepsGround.refl c

theorem Station.keepsGround_place (c : Station) (n : Nat) (g : Segment) :
    c.KeepsGround { c with drive := c.drive.place n g } := by
  simp only [Drive.place]
  split
  · split <;> exact Station.KeepsGround.refl c
  · exact Station.KeepsGround.refl c

theorem Station.keepsGround_endSegment (c : Station) (cause : EndCause) : c.KeepsGround (c.endSegment cause) := by
  unfold Station.endSegment
  split
  · exact Station.KeepsGround.refl c
  · split
    · exact (c.keepsGround_promote _).trans (Station.keepsGround_takeConditionEnd _ _)
    · exact c.keepsGround_promote _
    · exact c.keepsGround_stop.trans (Station.keepsGround_takeStall _)
    · exact c.keepsGround_stop.trans (Station.keepsGround_takeHomeClosed _)

theorem Station.keepsGround_runEnds (n : Nat) (c : Station) : c.KeepsGround (Station.runEnds n c) := by
  induction n generalizing c with
  | zero => exact Station.KeepsGround.refl c
  | succ n ih =>
    unfold Station.runEnds
    split
    · exact Station.KeepsGround.refl c
    · split
      · exact ((c.keepsGround_endSegment _).trans (Station.keepsGround_takeHomeClosed _)).trans (ih _)
      · split
        · exact (c.keepsGround_endSegment _).trans (ih _)
        · exact Station.KeepsGround.refl c

theorem Station.keepsGround_settleEnds (c : Station) : c.KeepsGround c.settleEnds := Station.keepsGround_runEnds 3 c

theorem Station.keepsGround_testCurrent (c : Station) (kind : EndCondition → Bool) :
    c.KeepsGround (c.testCurrent kind) := by
  unfold Station.testCurrent
  split
  · exact Station.KeepsGround.refl c
  · split
    · exact (c.keepsGround_endSegment _).trans (Station.keepsGround_settleEnds _)
    · exact Station.KeepsGround.refl c

theorem Station.keepsGround_write (c : Station) (g : Segment) : c.KeepsGround (c.write g) := by
  unfold Station.write
  split
  · exact c.keepsGround_place _ _
  · exact (c.keepsGround_place _ _).trans (Station.keepsGround_settleEnds _)

theorem Station.keepsGround_takeZero (c : Station) : c.KeepsGround c.takeZero := by
  unfold Station.takeZero
  split
  · exact c.keepsGround_enterFault _
  · split
    · exact c.keepsGround_enterFault _
    · refine Station.KeepsGround.trans ?_ (Station.keepsGround_write _ _)
      exact Station.KeepsGround.refl c
  · exact Station.KeepsGround.refl c

theorem Station.keepsGround_zeroAtEntry (c : Station) : c.KeepsGround c.zeroAtEntry := by
  unfold Station.zeroAtEntry
  split
  · exact c.keepsGround_takeZero
  · exact Station.KeepsGround.refl c

theorem Station.keepsGround_enterPayout (c : Station) (tag : Half) (target : Nat) :
    c.KeepsGround (c.enterPayout tag target) := by
  refine Station.KeepsGround.trans ?_ (Station.keepsGround_write _ _)
  exact c.keepsGround_change .payout

theorem Station.keepsGround_enterHeave (c : Station) : c.KeepsGround c.enterHeave := by
  refine Station.KeepsGround.trans ?_ (Station.keepsGround_settleEnds _)
  refine Station.KeepsGround.trans ?_ (Station.keepsGround_zeroAtEntry _)
  refine (c.keepsGround_change .heave).trans ?_
  exact (Station.keepsGround_place _ _ _).trans (Station.keepsGround_place _ _ _)

theorem Station.keepsGround_startRewind (c : Station) : c.KeepsGround c.startRewind :=
  (c.keepsGround_write _).trans (Station.keepsGround_zeroAtEntry _)

theorem Station.keepsGround_enterRewind (c : Station) : c.KeepsGround c.enterRewind :=
  (c.keepsGround_change .rewind).trans (Station.keepsGround_startRewind _)

theorem Station.keepsGround_startRendering (c : Station) : c.KeepsGround c.startRendering := by
  refine Station.KeepsGround.trans ?_ (Station.keepsGround_write _ _)
  exact Station.KeepsGround.refl c

theorem Station.keepsGround_takeClear (c : Station) : c.KeepsGround c.takeClear := by
  unfold Station.takeClear
  split
  · exact c.keepsGround_enterRewind
  · exact Station.KeepsGround.refl c

/-! ### The change of state (R24) -/

@[simp] theorem Station.state_change (c : Station) (new : LineState) : (c.change new).state = new := rfl

@[simp] theorem Station.toSequencer_change (c : Station) (new : LineState) :
    (c.change new).toSequencer = c.toSequencer ++ [.entered new] := rfl

@[simp] theorem Station.monitor_change (c : Station) (new : LineState) :
    (c.change new).monitor = c.monitor.changed c.state new := rfl

@[simp] theorem Station.attn_change (c : Station) (new : LineState) :
    (c.change new).attn = c.attn.changed c.state new := rfl

@[simp] theorem Station.average_change (c : Station) (new : LineState) : (c.change new).average = c.average := rfl

theorem Station.keepsTags_change (c : Station) (new : LineState) : c.KeepsTags (c.change new) := ⟨rfl, rfl, rfl⟩

theorem Station.movedTo_change (c : Station) (new : LineState) : c.MovedTo (c.change new) new :=
  ⟨rfl, rfl, (c.keepsGround_change new).1⟩

theorem Station.emptied_change (c : Station) {new : LineState} (h : new ≠ .slack) : (c.change new).Emptied .idle := by
  simp [Station.Emptied, Station.change, h, Drive.stop]

theorem Station.emptied_change_slack (c : Station) : (c.change .slack).Emptied .free := by
  simp [Station.Emptied, Station.change, Drive.freeDrum]

theorem Station.noOptions_change (c : Station) {new : LineState} (h : new ≠ .slack) : (c.change new).NoOptions := by
  simp [Station.NoOptions, Station.change, h]

/-- Entry into FAULT, whole (R149). -/
theorem Station.faulted_enterFault (c : Station) (cause : FaultCause) : c.Faulted (c.enterFault cause) cause :=
  ⟨c.movedTo_change .fault, rfl, rfl, rfl, rfl, rfl, c.emptied_change (by decide), c.keepsTags_change .fault,
    (c.keepsGround_change .fault).2.1, rfl, rfl⟩

/-- Retirement with its latch, whole (R8, R55). -/
theorem Station.retired_enterStowed (c : Station) : c.Retired (c.enterStowed.latch .stateReached) :=
  ⟨c.movedTo_change .stowed, rfl, rfl, rfl, ⟨rfl, rfl, rfl, rfl, rfl⟩, c.emptied_change (by decide),
    (c.keepsGround_change .stowed).2.1, rfl, rfl⟩

/-! ### Segments placed and tested (R85, R86) -/

theorem Drive.place_open_idle {d : Drive} (hf : d.field = .opened) (hm : d.mode ≠ .running) (n : Nat) (g : Segment) :
    d.place n g = d.start n g := by
  unfold Drive.place
  rw [if_pos hf]
  split
  · exact absurd (by assumption) hm
  · rfl
  · rfl

theorem Drive.place_open_running {d : Drive} (hf : d.field = .opened) (hm : d.mode = .running) (n : Nat) (g : Segment) :
    d.place n g = { d with nxt := some g } := by
  simp [Drive.place, hf, hm]

theorem Drive.place_not_open {d : Drive} (hf : d.field ≠ .opened) (n : Nat) (g : Segment) : d.place n g = d := by
  simp [Drive.place, hf]

/-- A current segment that nothing ends goes on. -/
theorem Station.settleEnds_of_running {c : Station} {g : Segment} (hc : c.drive.cur = some g)
    (hh : g.kind = .heave → c.drive.homeClosed = false) (hm : c.met g.endCondition = false) : c.settleEnds = c := by
  unfold Station.settleEnds Station.runEnds
  simp only [hc]
  split
  · rename_i h
    have := hh h.1
    simp [this] at h
  · simp [hm]

theorem Station.settleEnds_of_empty {c : Station} (hc : c.drive.cur = none) : c.settleEnds = c := by
  unfold Station.settleEnds Station.runEnds
  simp [hc]

/-! ### Clamp orders (R96) -/

theorem Drive.order_open (d : Drive) (n : Nat) (h : d.field = .opened ∨ d.field = .opening) :
    d.order n .opened = { d with command := some .opened } := by
  simp [Drive.order, ClampPosition.field, ClampPosition.travel, h]

theorem Drive.order_open_travels (d : Drive) (n : Nat) (h : d.field ≠ .opened) (h' : d.field ≠ .opening) :
    d.order n .opened = { d with command := some .opened, field := .opening, deadline := some n } := by
  simp [Drive.order, ClampPosition.field, ClampPosition.travel, h, h']

/-- An order confirms nothing where the switches do not show the position in travel. -/
theorem Station.confirmIfThere_of_none {c : Station} (h : c.drive.confirms = none) : c.confirmIfThere = c := by
  simp [Station.confirmIfThere, h]

end Sys2Proof.Machine
end

