-- ==== Sys2Proof/Laws/Channel.lean ====
section
/-! SUPPORT. What a sample, a report and an encoder count can do to a station, said once each. -/

namespace Sys2Proof.Machine

/-! ### The sample list (R64 to R66) -/

theorem length_pushSample_le {xs : List Nat} (h : xs.length ≤ 4) (t : Nat) : (pushSample xs t).length ≤ 4 := by
  by_cases hl : xs.length < 4
  · simp only [pushSample, Config.sampleDepth, hl, if_true, List.length_append, List.length_singleton]
    omega
  · simp only [pushSample, Config.sampleDepth, hl, if_false, List.length_append, List.length_singleton,
      List.length_tail]
    omega

theorem mem_pushSample {xs : List Nat} {t x : Nat} (h : x ∈ pushSample xs t) : x ∈ xs ∨ x = t := by
  unfold pushSample at h
  split at h
  · simpa using h
  · rcases List.mem_append.mp h with h | h
    · exact Or.inl (List.mem_of_mem_tail h)
    · exact Or.inr (by simpa using h)

theorem sampleOf_le {u : StationSettings} {edges : List Nat} {t : Nat} (h : sampleOf u edges = some t) :
    t ≤ Config.tensionMax := by
  unfold sampleOf at h
  split at h
  · cases h
  · split at h
    · cases h; exact Nat.min_le_left _ _
    · cases h

/-- What a sample leaves of the channel: the counts, the dwells reached and the marks. -/
theorem Monitor.absorb_counts (m : Monitor) (limit : Nat) (x : Option Nat) :
    (m.absorb limit x).below = m.below ∧ (m.absorb limit x).above = m.above ∧
      (m.absorb limit x).parted = m.parted ∧ (m.absorb limit x).trip = m.trip ∧
      (m.absorb limit x).clearDwell = m.clearDwell ∧ (m.absorb limit x).belowDue = m.belowDue ∧
      (m.absorb limit x).aboveDue = m.aboveDue ∧ (m.absorb limit x).clearDue = m.clearDue := by
  unfold Monitor.absorb
  split
  · exact ⟨rfl, rfl, rfl, rfl, rfl, rfl, rfl, rfl⟩
  · split <;> exact ⟨rfl, rfl, rfl, rfl, rfl, rfl, rfl, rfl⟩
  · split <;> exact ⟨rfl, rfl, rfl, rfl, rfl, rfl, rfl, rfl⟩
  · exact ⟨rfl, rfl, rfl, rfl, rfl, rfl, rfl, rfl⟩

/-! ### A sample moves the channel and the level conditions alone -/

/-- Only the channel and the attention set differ. -/
def Station.OnlyChannel (c d : Station) : Prop := d = { c with monitor := d.monitor, attn := d.attn }

theorem Station.OnlyChannel.refl (c : Station) : c.OnlyChannel c := rfl

theorem Station.OnlyChannel.trans {a b c : Station} (h : a.OnlyChannel b) (k : b.OnlyChannel c) : a.OnlyChannel c := by
  unfold Station.OnlyChannel at h k ⊢
  rw [k, h]

theorem Station.onlyChannel_monitor (c : Station) (m : Monitor) : c.OnlyChannel { c with monitor := m } := rfl

theorem Station.onlyChannel_compareBand (c : Station) : c.OnlyChannel c.compareBand := by
  unfold Station.compareBand
  split
  · dsimp only
    split
    · rfl
    · split <;> rfl
  · rfl

theorem Station.onlyChannel_compareParted (c : Station) : c.OnlyChannel c.compareParted := by
  unfold Station.compareParted
  split <;> rfl

theorem Station.onlyChannel_compareLock (c : Station) : c.OnlyChannel c.compareLock := by
  unfold Station.compareLock
  split <;> rfl

theorem Station.onlyChannel_compareClear (c : Station) : c.OnlyChannel c.compareClear := by
  unfold Station.compareClear
  split <;> rfl

theorem Station.onlyChannel_askCorrection (c : Station) (b : Bool) : c.OnlyChannel (c.askCorrection b) := by
  unfold Station.askCorrection
  dsimp only
  split
  · split
    · rfl
    · split <;> rfl
  · rfl

/-- A sample, whole (R68): line, drive, tags, settings, holds and reports to the sequencer stay. -/
theorem Station.onlyChannel_takeSample (c : Station) (edges : List Nat) : c.OnlyChannel (c.takeSample edges) := by
  unfold Station.takeSample
  refine Station.OnlyChannel.trans ?_ (Station.onlyChannel_askCorrection _ _)
  refine Station.OnlyChannel.trans ?_ (Station.onlyChannel_compareClear _)
  refine Station.OnlyChannel.trans ?_ (Station.onlyChannel_compareLock _)
  refine Station.OnlyChannel.trans ?_ (Station.onlyChannel_compareParted _)
  refine Station.OnlyChannel.trans ?_ (Station.onlyChannel_monitor _ _)
  refine Station.OnlyChannel.trans ?_ (Station.onlyChannel_compareBand _)
  exact Station.onlyChannel_monitor _ _

/-! ### Reports of a channel (R68) -/

/-- A report at the front of the channel is taken alone. -/
theorem Station.takeReport_front {c : Station} {p : MonitorReport → Bool} {r : MonitorReport}
    {rest : List MonitorReport} (h : c.monitor.reports = r :: rest) (hp : p r = true) :
    c.takeReport p = ({ c with monitor := { c.monitor with reports := rest } }).takeMonitorReport r := by
  simp [Station.takeReport, h, hp, Station.takeReports]

theorem Station.takeReport_none {c : Station} {p : MonitorReport → Bool} (h : c.monitor.reports.any p = false) :
    c.takeReport p = c := by
  simp [Station.takeReport, h]

/-! ### Switch readings (R97, R100) -/

theorem Station.readSwitches_travelling {c : Station} (h : c.drive.field.travelling = true) (r : SwitchReading) :
    c.readSwitches r = ({ c with drive := { c.drive with reading := r } }).confirmIfThere := by
  simp [Station.readSwitches, h]

/-- A reading at rest that does not take the field out of OPEN. -/
theorem Station.readSwitches_rest {c : Station} (h : c.drive.field.travelling = false) (r : SwitchReading)
    (hn : c.drive.field ≠ .opened ∨ fieldOfReading r = .opened) :
    c.readSwitches r = { c with drive := { c.drive with reading := r, field := fieldOfReading r } } := by
  have : ¬(c.drive.field = .opened ∧ fieldOfReading r ≠ .opened) := by
    rintro ⟨h1, h2⟩
    rcases hn with hn | hn
    · exact hn h1
    · exact h2 hn
  unfold Station.readSwitches
  simp only [h]
  rw [if_neg (by simp), if_neg this]

/-! ### Encoder counts (R91) -/

theorem Drive.counted_overrun_le {d : Drive} (h : d.overrun ≤ Config.countMax) (dir : CountDir) :
    (d.counted dir).overrun ≤ Config.countMax := by
  unfold Drive.counted
  split
  · exact Nat.zero_le _
  · exact h
  · exact Nat.zero_le _
  · split
    · exact h
    · exact Nat.min_le_left _ _
  · exact h

theorem Drive.counted_payout_le {d : Drive} {p : Nat} (h : d.payout = some p) (hp : p ≤ Config.payoutMax)
    (dir : CountDir) : ∃ q, (d.counted dir).payout = some q ∧ q ≤ Config.payoutMax := by
  cases dir with
  | render => exact ⟨min Config.payoutMax (p + 1), by simp [Drive.counted, h], Nat.min_le_left _ _⟩
  | heave =>
    cases p with
    | zero =>
      refine ⟨0, ?_, Nat.zero_le _⟩
      simp only [Drive.counted, h]
      split <;> simp [h]
    | succ n => exact ⟨n, by simp [Drive.counted, h], by omega⟩

end Sys2Proof.Machine
end

