-- ==== Sys2Proof/Laws/Encoder.lean ====
section
/-! SUPPORT. What the decoder makes of new levels, and what a count reads of a record: not the reports it has made. -/

namespace Sys2Proof.Machine

/-! ### The decoder (R90) -/

/-- The decoder writes its levels and its place in the cycle, and nothing else of the drive. -/
theorem Drive.decode_frame (d : Drive) (v : EncoderLevels) :
    (d.decode v).1 = { d with encoder := v, quarters := (d.decode v).1.quarters } := by
  unfold Drive.decode
  dsimp only
  split
  · rfl
  · split
    · rfl
    · split <;> rfl

theorem quarterStep_cases (old new : EncoderLevels) :
    quarterStep old new = 1 ∨ quarterStep old new = -1 ∨ quarterStep old new = 0 := by
  unfold quarterStep
  split <;> simp

/-- A cycle under way stays below four quarters. -/
theorem Drive.decode_quarters {d : Drive} (v : EncoderLevels) (h : -3 ≤ d.quarters ∧ d.quarters ≤ 3) :
    -3 ≤ (d.decode v).1.quarters ∧ (d.decode v).1.quarters ≤ 3 := by
  have := quarterStep_cases d.encoder v
  unfold Drive.decode
  dsimp only
  split
  · dsimp only; omega
  · split
    · dsimp only; omega
    · split <;> (dsimp only; omega)

/-- A quarter step in the render direction; the fourth is a count. -/
theorem Drive.decode_render {d : Drive} (h : -3 ≤ d.quarters) :
    d.decode ⟨!d.encoder.b, d.encoder.a⟩ =
      if d.quarters = 3 then ({ d with encoder := ⟨!d.encoder.b, d.encoder.a⟩, quarters := 0 }, some .render)
      else ({ d with encoder := ⟨!d.encoder.b, d.encoder.a⟩, quarters := d.quarters + 1 }, none) := by
  have hq : quarterStep d.encoder ⟨!d.encoder.b, d.encoder.a⟩ = 1 := by
    rcases d.encoder with ⟨_ | _, _ | _⟩ <;> rfl
  have hb : ¬(d.encoder.a ≠ !d.encoder.b ∧ d.encoder.b ≠ d.encoder.a) := by
    rcases d.encoder with ⟨_ | _, _ | _⟩ <;> simp
  unfold Drive.decode
  simp only [hq]
  rw [if_neg hb, if_neg (c := d.quarters + 1 = -4) (by omega)]
  by_cases h3 : d.quarters = 3
  · rw [if_pos h3, if_pos (by omega)]
  · rw [if_neg h3, if_neg (by omega)]

/-- A quarter step in the heave direction; the fourth is a count. -/
theorem Drive.decode_heave {d : Drive} (h : d.quarters ≤ 3) :
    d.decode ⟨d.encoder.b, !d.encoder.a⟩ =
      if d.quarters = -3 then ({ d with encoder := ⟨d.encoder.b, !d.encoder.a⟩, quarters := 0 }, some .heave)
      else ({ d with encoder := ⟨d.encoder.b, !d.encoder.a⟩, quarters := d.quarters - 1 }, none) := by
  have hq : quarterStep d.encoder ⟨d.encoder.b, !d.encoder.a⟩ = -1 := by
    rcases d.encoder with ⟨_ | _, _ | _⟩ <;> rfl
  have hb : ¬(d.encoder.a ≠ d.encoder.b ∧ d.encoder.b ≠ !d.encoder.a) := by
    rcases d.encoder with ⟨_ | _, _ | _⟩ <;> simp
  unfold Drive.decode
  simp only [hq]
  rw [if_neg hb, if_neg (c := d.quarters + -1 = 4) (by omega)]
  by_cases h3 : d.quarters = -3
  · rw [if_pos h3, if_pos (by omega)]
  · rw [if_neg h3, if_neg (by omega), Int.sub_eq_add_neg]

/-- A change of both inputs at once gives no count (R90). -/
theorem Drive.decode_both (d : Drive) :
    d.decode ⟨!d.encoder.a, !d.encoder.b⟩ =
      ({ d with encoder := ⟨!d.encoder.a, !d.encoder.b⟩, quarters := 0 }, none) := by
  unfold Drive.decode
  rw [if_pos (by rcases d.encoder with ⟨_ | _, _ | _⟩ <;> simp)]

/-! ### Reports are added behind those that stand, and read by nothing in a count -/

/-- The operation adds reports behind those of the record and reads none of them. -/
def AddsReports (op : Station → Station) : Prop :=
  ∀ c : Station, ∃ new, ∀ x, op { c with toSequencer := x } = { op c with toSequencer := x ++ new }

theorem AddsReports.id : AddsReports fun c => c := fun _ => ⟨[], fun x => by simp⟩

theorem AddsReports.comp {f g : Station → Station} (hf : AddsReports f) (hg : AddsReports g) :
    AddsReports fun c => g (f c) := by
  intro c
  obtain ⟨n, hn⟩ := hf c
  obtain ⟨m, hm⟩ := hg (f c)
  refine ⟨n ++ m, fun x => ?_⟩
  dsimp only
  rw [hn, hm, List.append_assoc]

/-- A choice by what is not a report. -/
theorem AddsReports.ite {f g : Station → Station} {p : Station → Prop} [DecidablePred p]
    (hp : ∀ c x, p { c with toSequencer := x } ↔ p c) (hf : AddsReports f) (hg : AddsReports g) :
    AddsReports fun c => if p c then f c else g c := by
  intro c
  by_cases h : p c
  · obtain ⟨n, hn⟩ := hf c
    refine ⟨n, fun x => ?_⟩
    dsimp only
    rw [if_pos h, if_pos ((hp c x).2 h), hn]
  · obtain ⟨n, hn⟩ := hg c
    refine ⟨n, fun x => ?_⟩
    dsimp only
    rw [if_neg h, if_neg (mt (hp c x).1 h), hn]

/-- A change of fields that are not the reports, and do not depend on them. -/
theorem AddsReports.of_rfl {op : Station → Station}
    (h : ∀ c x, op { c with toSequencer := x } = { op c with toSequencer := x }) : AddsReports op :=
  fun c => ⟨[], fun x => by rw [h, List.append_nil]⟩

theorem AddsReports.latch (k : StationCondition) : AddsReports fun c => c.latch k := .of_rfl fun _ _ => rfl

theorem AddsReports.change (new : LineState) : AddsReports fun c => c.change new :=
  fun _ => ⟨[.entered new], fun _ => rfl⟩

theorem AddsReports.enterFault (cause : FaultCause) : AddsReports fun c => c.enterFault cause :=
  fun _ => ⟨[.entered .fault], fun _ => rfl⟩

theorem AddsReports.enterStowed : AddsReports Station.enterStowed := fun _ => ⟨[.entered .stowed], fun _ => rfl⟩

/-- An operation that is one of several by the state of the line. -/
theorem AddsReports.byState {op : Station → Station} (choice : LineState → Station → Station)
    (h : ∀ c, op c = choice c.state c) (hc : ∀ st, AddsReports (choice st)) : AddsReports op := by
  intro c
  obtain ⟨n, hn⟩ := hc c.state c
  refine ⟨n, fun x => ?_⟩
  rw [h c, h]
  exact hn x

theorem AddsReports.takeHomeClosed : AddsReports Station.takeHomeClosed := by
  refine .byState (fun
    | .heave => fun c => c.enterFault .noLoad
    | .rewind => fun c => c.enterStowed.latch .stateReached
    | _ => fun c => c) (fun c => by unfold Station.takeHomeClosed; split <;> simp_all) fun st => ?_
  cases st
  case heave => exact .enterFault _
  case rewind => exact AddsReports.enterStowed.comp (.latch _)
  all_goals exact .id

theorem AddsReports.takeConditionEnd (g : Segment) : AddsReports fun c => c.takeConditionEnd g := by
  refine .byState (fun
    | .payout => fun c => c.latch .stateReached
    | .heave => fun c => if g.supervised then c else (c.change .tended).latch .stateReached
    | .easing => fun c => (c.change .slack).latch .stateReached
    | .rewind => fun c => c.enterStowed.latch .stateReached
    | _ => fun c => c) (fun c => by unfold Station.takeConditionEnd; split <;> simp_all) fun st => ?_
  cases st
  case payout => exact .latch _
  case heave => exact .ite (fun _ _ => Iff.rfl) .id ((AddsReports.change _).comp (.latch _))
  case easing => exact (AddsReports.change _).comp (.latch _)
  case rewind => exact AddsReports.enterStowed.comp (.latch _)
  all_goals exact .id

theorem AddsReports.takeStall : AddsReports Station.takeStall := by
  refine .byState (fun
    | .payout | .heave | .rewind => fun c => c.enterFault .stall
    | _ => fun c => c) (fun c => by unfold Station.takeStall; split <;> simp_all) fun st => ?_
  cases st
  case payout | heave | rewind => exact .enterFault _
  all_goals exact .id

/-- An operation that is one of several by the current segment. -/
theorem AddsReports.bySegment {op : Station → Station} (choice : Option Segment → Station → Station)
    (h : ∀ c, op c = choice c.drive.cur c) (hc : ∀ o, AddsReports (choice o)) : AddsReports op := by
  intro c
  obtain ⟨n, hn⟩ := hc c.drive.cur c
  refine ⟨n, fun x => ?_⟩
  rw [h c, h]
  exact hn x

theorem AddsReports.endSegment (cause : EndCause) : AddsReports fun c => c.endSegment cause := by
  refine .bySegment (fun
    | none => fun c => c
    | some g => fun c =>
      match cause with
      | .endCondition => ({ c with drive := c.drive.promote c.settings.stallTime }).takeConditionEnd g
      | .duration => { c with drive := c.drive.promote c.settings.stallTime }
      | .stall => ({ c with drive := c.drive.stop }).takeStall
      | .homeLimit => ({ c with drive := c.drive.stop }).takeHomeClosed)
    (fun c => by unfold Station.endSegment; cases c.drive.cur <;> rfl) fun o => ?_
  have promote : AddsReports fun c => { c with drive := c.drive.promote c.settings.stallTime } :=
    .of_rfl fun _ _ => rfl
  have stop : AddsReports fun c => { c with drive := c.drive.stop } := .of_rfl fun _ _ => rfl
  cases o with
  | none => exact .id
  | some g =>
    cases cause
    · exact promote.comp (.takeConditionEnd g)
    · exact promote
    · exact stop.comp .takeStall
    · exact stop.comp .takeHomeClosed

theorem AddsReports.runEnds (n : Nat) : AddsReports (Station.runEnds n) := by
  induction n with
  | zero => exact .id
  | succ n ih =>
    refine .bySegment (fun
      | none => fun c => c
      | some g => fun c =>
        if g.kind = .heave ∧ c.drive.homeClosed = true then
          Station.runEnds n
            (c.endSegment (if g.endCondition = .homeClosed then .endCondition else .homeLimit)).takeHomeClosed
        else if c.met g.endCondition then Station.runEnds n (c.endSegment .endCondition)
        else c) (fun c => by rw [Station.runEnds]; cases c.drive.cur <;> rfl) fun o => ?_
    cases o with
    | none => exact .id
    | some g =>
      refine .ite (fun _ _ => Iff.rfl) (((AddsReports.endSegment _).comp .takeHomeClosed).comp ih) ?_
      refine .ite (p := fun c => c.met g.endCondition = true) (fun c x => ?_) ((AddsReports.endSegment _).comp ih) .id
      cases g.endCondition <;> exact Iff.rfl

theorem AddsReports.testCurrent (kind : EndCondition → Bool) : AddsReports fun c => c.testCurrent kind := by
  refine .bySegment (fun
    | none => fun c => c
    | some g => fun c =>
      if kind g.endCondition && c.met g.endCondition then (c.endSegment .endCondition).settleEnds else c)
    (fun c => by unfold Station.testCurrent; cases c.drive.cur <;> rfl) fun o => ?_
  cases o with
  | none => exact .id
  | some g =>
    refine .ite (p := fun c => (kind g.endCondition && c.met g.endCondition) = true) (fun c x => ?_)
      ((AddsReports.endSegment _).comp (.runEnds 3)) .id
    cases g.endCondition <;> exact Iff.rfl

theorem AddsReports.write (g : Segment) : AddsReports fun c => c.write g := by
  have place : AddsReports fun c => { c with drive := c.drive.place c.settings.stallTime g } := .of_rfl fun _ _ => rfl
  exact .ite (p := fun c => c.drive.mode = .running) (fun _ _ => Iff.rfl) place (place.comp (.runEnds 3))

theorem AddsReports.takeZero : AddsReports Station.takeZero := by
  refine .byState (fun
    | .heave => fun c => c.enterFault .noLoad
    | .rewind => fun c =>
      if c.settings.homeMargin = 0 then c.enterFault .home
      else
        ({ c with drive := c.drive.stop, creepSpent := some (c.drive.overrun + c.settings.homeMargin) }).write
          c.creepSegment
    | _ => fun c => c) (fun c => by unfold Station.takeZero; split <;> simp_all) fun st => ?_
  cases st
  case heave => exact .enterFault _
  case rewind =>
    refine .ite (p := fun c => c.settings.homeMargin = 0) (fun _ _ => Iff.rfl) (.enterFault _) fun c => ?_
    exact AddsReports.comp
      (f := fun c => { c with
        drive := c.drive.stop, creepSpent := some (c.drive.overrun + c.settings.homeMargin) })
      (.of_rfl fun _ _ => rfl) (.write c.creepSegment) c
  all_goals exact .id

theorem AddsReports.takeCount (dir : CountDir) : AddsReports fun c => c.takeCount dir := by
  have count : AddsReports fun c => ({ c with
      drive := (c.drive.restartStall c.settings.stallTime).counted dir }).testCurrent EndCondition.onPayout :=
    AddsReports.comp (f := fun c => { c with drive := (c.drive.restartStall c.settings.stallTime).counted dir })
      (.of_rfl fun _ _ => rfl) (.testCurrent _)
  exact .ite (p := fun c => c.drive.arrives dir = true) (fun _ _ => Iff.rfl) (count.comp .takeZero) count

/-- New levels add reports and read none: a list of levels is taken as its levels one by one, heard or not. -/
theorem AddsReports.takeLevels (v : EncoderLevels) : AddsReports fun c => c.takeLevels v := by
  intro c
  have decode : AddsReports fun c => { c with drive := (c.drive.decode v).1 } := .of_rfl fun _ _ => rfl
  cases h : (c.drive.decode v).2 with
  | none =>
    obtain ⟨n, hn⟩ := decode c
    refine ⟨n, fun x => ?_⟩
    simp only [Station.takeLevels, h]
    exact hn x
  | some dir =>
    obtain ⟨n, hn⟩ := decode.comp (.takeCount dir) c
    refine ⟨n, fun x => ?_⟩
    simp only [Station.takeLevels, h]
    exact hn x

end Sys2Proof.Machine
end

