-- ==== Sys2Proof/Laws/Frames.lean ====
section
/-! SUPPORT. Sums, fields and lengths of the frames of both ports. -/

namespace Sys2Proof.Machine

/-! ### Sums (R177) -/

theorem foldl_add_byte (xs : List Byte) (a : Byte) : xs.foldl (· + ·) a = a + xs.foldl (· + ·) 0 := by
  induction xs generalizing a with
  | nil => simp
  | cons x xs ih =>
    simp only [List.foldl_cons]
    rw [ih (a + x), ih (0 + x)]
    have hz : (0 : Byte) + x = x := BitVec.zero_add x
    rw [hz, BitVec.add_assoc]

theorem byteSum_append (xs ys : List Byte) : byteSum (xs ++ ys) = byteSum xs + byteSum ys := by
  simp only [byteSum, List.foldl_append]
  exact foldl_add_byte ys _

/-- A body closed by its check byte sums to 0. -/
theorem byteSum_closed (xs : List Byte) : byteSum (xs ++ [checkByte xs]) = 0 := by
  rw [byteSum_append]
  have h : byteSum [checkByte xs] = -byteSum xs := BitVec.zero_add _
  rw [h]
  exact BitVec.add_right_neg _

/-! ### Two-byte fields (R190) -/

/-- Reading a field gives the value written. -/
theorem joinHalf_halfBytes (x : Half) : joinHalf (x.extractLsb' 8 8) (x.extractLsb' 0 8) = x := by
  apply BitVec.eq_of_getLsbD_eq
  intro k hk
  simp only [joinHalf, BitVec.getLsbD_append, BitVec.getLsbD_extractLsb']
  by_cases h : k < 8
  · simp [h]
  · have h2 : k - 8 < 8 := by omega
    have h3 : 8 + (k - 8) = k := by omega
    simp [h, h2, h3]

theorem length_halfBytes (x : Half) : (halfBytes x).length = 2 := rfl

theorem length_natBytes (n : Nat) : (natBytes n).length = 2 := rfl

theorem toNat_natByte {n : Nat} (h : n < 256) : (natByte n).toNat = n := by
  simp [natByte, BitVec.toNat_ofNat, Nat.mod_eq_of_lt h]

/-! ### Stations and faces as bytes -/

theorem stationOf_natByte (i : StationId) : stationOf (natByte i.val) = some i := by
  have h : (natByte i.val).toNat = i.val := toNat_natByte (by omega)
  have h' : (natByte i.val).toNat < 24 := by rw [h]; exact i.isLt
  simp only [stationOf, h', dif_pos]
  congr 1
  exact Fin.ext h

theorem faceOfByte_faceCode (f : Face) : faceOfByte (faceCode f) = some f := by cases f <;> rfl

end Sys2Proof.Machine
end

