-- ==== Sys2Proof/Laws/LineCode.lean ====
section
/-! SUPPORT. What the receiver measures of the pulses that show an element, and where in a mark the sender stands. -/

namespace Sys2Proof.Machine

/-! ### Measuring (R184) -/

@[simp] theorem FaceSettings.isMark_markLevel (u : FaceSettings) : u.isMark (decide (u.receivePolarity = 1)) = true := by
  simp [FaceSettings.isMark]

@[simp] theorem FaceSettings.isMark_spaceLevel (u : FaceSettings) :
    u.isMark (!decide (u.receivePolarity = 1)) = false := by
  simp [FaceSettings.isMark]

theorem FaceSettings.tick_pos {u : FaceSettings} (h : 0 < u.linkUnit) : 0 < u.tick :=
  Nat.mul_pos (by decide) h

/-- The pulse that shows an element measures as that element. -/
theorem FaceSettings.measure_shown {u : FaceSettings} (h : 0 < u.linkUnit) (e : Element) :
    u.measure (u.shown e) = e := by
  cases e <;> simp [FaceSettings.shown, FaceSettings.measure, Nat.mul_div_cancel _ (u.tick_pos h)]

theorem FaceSettings.measured_shown {u : FaceSettings} (h : 0 < u.linkUnit) (es : List Element) :
    u.measured (es.map u.shown) = es := by
  simp [FaceSettings.measured, Function.comp_def, FaceSettings.measure_shown h]

/-- A length from `k` ticks up to the next measures as `k` (rounded down). -/
theorem FaceSettings.ticks_of_bounds {u : FaceSettings} {n k : Nat} (h : k * u.tick ≤ n) (h' : n < (k + 1) * u.tick) :
    n / u.tick = k :=
  Nat.div_eq_of_lt_le h h'

/-! ### The light (R183) -/

/-- Past the first element, the place within the rest counts. -/
theorem timeInMark_cons (tick : Nat) (e : Element) (rest : List Element) (t : Nat) :
    timeInMark tick (e :: rest) (elementTicks e * tick + t) = timeInMark tick rest t := by
  cases e with
  | mark k =>
    have h : ¬k * tick + t < k * tick := by omega
    simp only [elementTicks, timeInMark, if_neg h, Nat.add_sub_cancel_left]
  | space k =>
    have h : ¬k * tick + t < k * tick := by omega
    simp only [elementTicks, timeInMark, if_neg h, Nat.add_sub_cancel_left]

/-- Behind whole elements, the place within the rest counts. -/
theorem timeInMark_append (tick : Nat) (before rest : List Element) (t : Nat) :
    timeInMark tick (before ++ rest) (elementsLength before * tick + t) = timeInMark tick rest t := by
  induction before with
  | nil => simp [elementsLength]
  | cons e before ih =>
    have hs : elementsLength (e :: before) * tick + t = elementTicks e * tick + (elementsLength before * tick + t) := by
      simp [elementsLength, Nat.add_mul, Nat.add_assoc]
    rw [hs, List.cons_append, timeInMark_cons, ih]

end Sys2Proof.Machine
end

