-- ==== Sys2Proof/Laws/PerInstr.lean ====
section
/-! SUPPORT. Statements made of each command as syntax, one lemma for each constructor. -/

namespace Sys2Proof.Laws

open Sys2Proof.Machine

/-- `Framed`: a host request of the row's shape carries a code of the request table and a payload length that the code
takes, and a ship request a code and a length of the ship table (Table 12-2). -/
def Framed.Statement (i : Instr) : Prop :=
  (∀ r, shoreRequest i = some r → i.WellFormed = true →
    ∃ row ∈ requestTable, row.1 = r.1.toNat ∧ row.2.1 ≤ r.2.2.length ∧ r.2.2.length ≤ row.2.2.1) ∧
  ∀ r, shipRequestOf i = some r → (r.2.1.toNat, r.2.2.2.length) ∈ shipTable

/-- A command that is no request. -/
theorem Framed.of_none {i : Instr} (h : shoreRequest i = none) (k : shipRequestOf i = none) : Framed.Statement i := by
  constructor
  · intro r hr; rw [h] at hr; cases hr
  · intro r hr; rw [k] at hr; cases hr

/-- A host request of a fixed length. -/
theorem Framed.of_host {i : Instr} {code target : Byte} {payload : List Byte} (kind : TargetKind) (n : Nat)
    (h : shoreRequest i = some (code, target, payload)) (k : shipRequestOf i = none) (hn : payload.length = n)
    (hrow : (code.toNat, n, n, kind) ∈ requestTable) : Framed.Statement i := by
  constructor
  · intro r hr _
    rw [h] at hr; cases hr
    exact ⟨_, hrow, rfl, by simp [hn], by simp [hn]⟩
  · intro r hr; rw [k] at hr; cases hr

/-- A ship request. -/
theorem Framed.of_ship {i : Instr} {tag : Half} {code selector : Byte} {payload : List Byte}
    (h : shoreRequest i = none) (k : shipRequestOf i = some (tag, code, selector, payload))
    (hrow : (code.toNat, payload.length) ∈ shipTable) : Framed.Statement i := by
  constructor
  · intro r hr; rw [h] at hr; cases hr
  · intro r hr; rw [k] at hr; cases hr; exact hrow


theorem Framed.powerOnReset : Framed.Statement .powerOnReset := Framed.of_none rfl rfl

theorem Framed.selectBegin (bits : List Bool) : Framed.Statement (.selectBegin bits) := Framed.of_none rfl rfl

theorem Framed.selectEnd : Framed.Statement .selectEnd := Framed.of_none rfl rfl

theorem Framed.shoreFrameRefused (frame : List Byte) : Framed.Statement (.shoreFrameRefused frame) :=
  Framed.of_none rfl rfl

theorem Framed.shipFrameRefused (face : Face) (frame : List Byte) : Framed.Statement (.shipFrameRefused face frame) :=
  Framed.of_none rfl rfl

theorem Framed.ident : Framed.Statement .ident :=
  Framed.of_host .device 0 rfl rfl rfl (by decide)

theorem Framed.queryLine (sender : LineBy) : Framed.Statement (.queryLine sender) := by
  cases sender with
  | host _ => exact Framed.of_host .station 0 rfl rfl rfl (by decide)
  | ship _ _ _ => exact Framed.of_ship rfl rfl (show (0x10, 0) ∈ shipTable by decide)

theorem Framed.windowList (sender : FaceBy) : Framed.Statement (.windowList sender) := by
  cases sender with
  | host _ => exact Framed.of_host .face 0 rfl rfl rfl (by decide)
  | ship _ _ _ => exact Framed.of_ship rfl rfl (show (0x11, 0) ∈ shipTable by decide)

theorem Framed.pushHold (sender : LineBy) (reason : Byte) : Framed.Statement (.pushHold sender reason) := by
  cases sender with
  | host _ => exact Framed.of_host .station 1 rfl rfl rfl (by decide)
  | ship _ _ _ => exact Framed.of_ship rfl rfl (show (0x12, 1) ∈ shipTable by decide)

theorem Framed.popHold (sender : LineBy) : Framed.Statement (.popHold sender) := by
  cases sender with
  | host _ => exact Framed.of_host .station 0 rfl rfl rfl (by decide)
  | ship _ _ _ => exact Framed.of_ship rfl rfl (show (0x13, 0) ∈ shipTable by decide)

theorem Framed.setBand (station : StationId) (low high : Half) : Framed.Statement (.setBand station low high) :=
  Framed.of_host .station 4 rfl rfl rfl (by decide)

theorem Framed.requestBand (face : Face) (tag : Half) (selector : Byte) (low high : Half) :
    Framed.Statement (.requestBand face tag selector low high) :=
  Framed.of_ship rfl rfl (show (0x15, 4) ∈ shipTable by decide)

theorem Framed.markAttached (sender : LineBy) (fittingTag : Byte) :
    Framed.Statement (.markAttached sender fittingTag) := by
  cases sender with
  | host _ => exact Framed.of_host .station 1 rfl rfl rfl (by decide)
  | ship _ _ _ => exact Framed.of_ship rfl rfl (show (0x16, 1) ∈ shipTable by decide)

theorem Framed.payout (station : StationId) (target : Half) : Framed.Statement (.payout station target) :=
  Framed.of_host .station 2 rfl rfl rfl (by decide)

theorem Framed.takeUp (sender : LineBy) : Framed.Statement (.takeUp sender) := by
  cases sender with
  | host _ => exact Framed.of_host .station 0 rfl rfl rfl (by decide)
  | ship _ _ _ => exact Framed.of_ship rfl rfl (show (0x21, 0) ∈ shipTable by decide)

theorem Framed.lock (station : StationId) : Framed.Statement (.lock station) :=
  Framed.of_host .station 0 rfl rfl rfl (by decide)

theorem Framed.unlock (station : StationId) : Framed.Statement (.unlock station) :=
  Framed.of_host .station 0 rfl rfl rfl (by decide)

theorem Framed.release (station : StationId) : Framed.Statement (.release station) :=
  Framed.of_host .station 0 rfl rfl rfl (by decide)

theorem Framed.cancel (station : StationId) : Framed.Statement (.cancel station) :=
  Framed.of_host .station 0 rfl rfl rfl (by decide)

theorem Framed.markClear (sender : LineBy) : Framed.Statement (.markClear sender) := by
  cases sender with
  | host _ => exact Framed.of_host .station 0 rfl rfl rfl (by decide)
  | ship _ _ _ => exact Framed.of_ship rfl rfl (show (0x26, 0) ∈ shipTable by decide)

theorem Framed.clearFault (station : StationId) (target : Byte) : Framed.Statement (.clearFault station target) :=
  Framed.of_host .station 1 rfl rfl rfl (by decide)

theorem Framed.adopt (station : StationId) (target presence fittingTag : Byte) (low high : Half) :
    Framed.Statement (.adopt station target presence fittingTag low high) :=
  Framed.of_host .station 7 rfl rfl rfl (by decide)

theorem Framed.setWindow (face : Face) (base limit : Byte) : Framed.Statement (.setWindow face base limit) :=
  Framed.of_host .face 2 rfl rfl rfl (by decide)

theorem Framed.arrive (face : Face) (tag : Half) : Framed.Statement (.arrive face tag) :=
  Framed.of_host .face 2 rfl rfl rfl (by decide)

theorem Framed.secure (face : Face) : Framed.Statement (.secure face) :=
  Framed.of_host .face 0 rfl rfl rfl (by decide)

theorem Framed.vacate (face : Face) : Framed.Statement (.vacate face) :=
  Framed.of_host .face 0 rfl rfl rfl (by decide)

theorem Framed.queryFace (face : Face) : Framed.Statement (.queryFace face) :=
  Framed.of_host .face 0 rfl rfl rfl (by decide)

theorem Framed.setPlan (face : Face) (width : Byte) (timeout : Half) (stations : List Byte) :
    Framed.Statement (.setPlan face width timeout stations) := by
  constructor
  · intro r hr hw
    cases hr
    have hlen : stations.length ≤ 16 := by
      have := hw
      simp only [Instr.WellFormed, Bool.and_eq_true, decide_eq_true_eq] at this
      exact this.2
    have hpos : 1 ≤ stations.length := by
      have := hw
      simp only [Instr.WellFormed, Bool.and_eq_true, decide_eq_true_eq] at this
      exact this.1
    refine ⟨(0x38, 4, 19, .face), by decide, rfl, ?_, ?_⟩
    · simp only [halfBytes, List.length_append, List.length_cons, List.length_nil]; omega
    · simp only [halfBytes, List.length_append, List.length_cons, List.length_nil]; omega
  · intro r hr; cases hr

theorem Framed.queryPlan (face : Face) : Framed.Statement (.queryPlan face) :=
  Framed.of_host .face 0 rfl rfl rfl (by decide)

theorem Framed.depart (face : Face) : Framed.Statement (.depart face) :=
  Framed.of_host .face 0 rfl rfl rfl (by decide)

theorem Framed.pause (face : Face) : Framed.Statement (.pause face) :=
  Framed.of_host .face 0 rfl rfl rfl (by decide)

theorem Framed.resume (face : Face) : Framed.Statement (.resume face) :=
  Framed.of_host .face 0 rfl rfl rfl (by decide)

theorem Framed.abortDepart (face : Face) : Framed.Statement (.abortDepart face) :=
  Framed.of_host .face 0 rfl rfl rfl (by decide)

theorem Framed.emergencyRelease (face : Face) : Framed.Statement (.emergencyRelease face) :=
  Framed.of_host .face 0 rfl rfl rfl (by decide)

theorem Framed.summary : Framed.Statement .summary :=
  Framed.of_host .device 0 rfl rfl rfl (by decide)

theorem Framed.readAttention (target : Scoped) : Framed.Statement (.readAttention target) :=
  Framed.of_host .attentionScope 1 rfl rfl rfl (by decide)

theorem Framed.ackAttention (target : Scoped) (codes : List Byte) :
    Framed.Statement (.ackAttention target codes) := by
  constructor
  · intro r hr hw
    cases hr
    have hlen : codes.length ≤ 9 := by
      have := hw
      simp only [Instr.WellFormed, Bool.and_eq_true, decide_eq_true_eq] at this
      exact this.2
    refine ⟨(0x4A, 1, 10, .attentionScope), by decide, rfl, ?_, ?_⟩
    · simp
    · simp only [List.length_cons]; omega
  · intro r hr; cases hr

theorem Framed.setClassMask (mask : Byte) : Framed.Statement (.setClassMask mask) :=
  Framed.of_host .device 1 rfl rfl rfl (by decide)

theorem Framed.clearLinkStatus (face : Face) (flags : Byte) : Framed.Statement (.clearLinkStatus face flags) :=
  Framed.of_host .face 1 rfl rfl rfl (by decide)

theorem Framed.setSetting (target : Scoped) (item : Byte) (value : Half) :
    Framed.Statement (.setSetting target item value) :=
  Framed.of_host .settingScope 4 rfl rfl rfl (by decide)

theorem Framed.getSetting (target : Scoped) (item : Byte) : Framed.Statement (.getSetting target item) :=
  Framed.of_host .settingScope 2 rfl rfl rfl (by decide)

theorem Framed.erActivation (face : Face) : Framed.Statement (.erActivation face) := Framed.of_none rfl rfl

theorem Framed.erDeactivation (face : Face) : Framed.Statement (.erDeactivation face) := Framed.of_none rfl rfl

theorem Framed.releaseClaim (station : StationId) : Framed.Statement (.releaseClaim station) := Framed.of_none rfl rfl

theorem Framed.emergencyPlanReport (face : Face) : Framed.Statement (.emergencyPlanReport face) :=
  Framed.of_none rfl rfl

theorem Framed.tmSample (station : StationId) (edges : List Nat) : Framed.Statement (.tmSample station edges) :=
  Framed.of_none rfl rfl

theorem Framed.sensorFailed (station : StationId) : Framed.Statement (.sensorFailed station) := Framed.of_none rfl rfl

theorem Framed.sensorRecovered (station : StationId) : Framed.Statement (.sensorRecovered station) :=
  Framed.of_none rfl rfl

theorem Framed.bandDwell (station : StationId) (side : BandSide) : Framed.Statement (.bandDwell station side) :=
  Framed.of_none rfl rfl

theorem Framed.tendingCorrection (station : StationId) : Framed.Statement (.tendingCorrection station) :=
  Framed.of_none rfl rfl

theorem Framed.partedLine (station : StationId) : Framed.Statement (.partedLine station) := Framed.of_none rfl rfl

theorem Framed.lockTrip (station : StationId) : Framed.Statement (.lockTrip station) := Framed.of_none rfl rfl

theorem Framed.autoClear (station : StationId) : Framed.Statement (.autoClear station) := Framed.of_none rfl rfl

theorem Framed.tensionEndCondition (station : StationId) : Framed.Statement (.tensionEndCondition station) :=
  Framed.of_none rfl rfl

theorem Framed.encoderCount (station : StationId) (levels : List EncoderLevels) : Framed.Statement (.encoderCount station levels) :=
  Framed.of_none rfl rfl

theorem Framed.homeMarginSpent (station : StationId) : Framed.Statement (.homeMarginSpent station) :=
  Framed.of_none rfl rfl

theorem Framed.homeClosing (station : StationId) : Framed.Statement (.homeClosing station) := Framed.of_none rfl rfl

theorem Framed.homeOpening (station : StationId) : Framed.Statement (.homeOpening station) := Framed.of_none rfl rfl

theorem Framed.durationExpiry (station : StationId) : Framed.Statement (.durationExpiry station) :=
  Framed.of_none rfl rfl

theorem Framed.stallExpiry (station : StationId) : Framed.Statement (.stallExpiry station) := Framed.of_none rfl rfl

theorem Framed.clampConfirm (station : StationId) : Framed.Statement (.clampConfirm station) := Framed.of_none rfl rfl

theorem Framed.clampTimeout (station : StationId) : Framed.Statement (.clampTimeout station) := Framed.of_none rfl rfl

theorem Framed.clampChange (station : StationId) (reading : SwitchReading) :
    Framed.Statement (.clampChange station reading) :=
  Framed.of_none rfl rfl

theorem Framed.easeLimitExpiry (station : StationId) : Framed.Statement (.easeLimitExpiry station) :=
  Framed.of_none rfl rfl

theorem Framed.stateReport (station : StationId) : Framed.Statement (.stateReport station) := Framed.of_none rfl rfl

theorem Framed.holdStackEmptied (station : StationId) : Framed.Statement (.holdStackEmptied station) :=
  Framed.of_none rfl rfl

theorem Framed.walkClaim (face : Face) : Framed.Statement (.walkClaim face) := Framed.of_none rfl rfl

theorem Framed.startClaim (station : StationId) : Framed.Statement (.startClaim station) := Framed.of_none rfl rfl

theorem Framed.returnClaim (station : StationId) : Framed.Statement (.returnClaim station) := Framed.of_none rfl rfl

theorem Framed.stepTimerExpiry (station : StationId) : Framed.Statement (.stepTimerExpiry station) :=
  Framed.of_none rfl rfl

theorem Framed.shipFrameError (face : Face) (signal : List Pulse) :
    Framed.Statement (.shipFrameError face signal) :=
  Framed.of_none rfl rfl

theorem Framed.shipFrameDiscardEnd (face : Face) (signal : List Pulse) :
    Framed.Statement (.shipFrameDiscardEnd face signal) :=
  Framed.of_none rfl rfl

theorem Framed.answerTransmitStart (face : Face) : Framed.Statement (.answerTransmitStart face) :=
  Framed.of_none rfl rfl

theorem Framed.answerSent (face : Face) : Framed.Statement (.answerSent face) := Framed.of_none rfl rfl

theorem Framed.turnaroundEnd (face : Face) (high : Bool) : Framed.Statement (.turnaroundEnd face high) := Framed.of_none rfl rfl

theorem Framed.resetEnd (pins : PinLevels) : Framed.Statement (.resetEnd pins) := Framed.of_none rfl rfl

theorem Framed.startMarkAccepted (face : Face) (mark : Pulse) (marks changes : Nat) : Framed.Statement (.startMarkAccepted face mark marks changes) :=
  Framed.of_none rfl rfl

end Sys2Proof.Laws
end

