-- ==== Sys2Proof/Laws/Sequencer.lean ====
section
/-! SUPPORT. What the Departure Sequencers' operations leave alone, and the fields each of them writes. -/

namespace Sys2Proof.Machine

/-! ### Field lemmas -/

@[simp] theorem Sequencer.state_edit (q : Sequencer) (i : StationId) (g : PlanEntry → PlanEntry) :
    (q.edit i g).state = q.state := rfl

@[simp] theorem Sequencer.width_edit (q : Sequencer) (i : StationId) (g : PlanEntry → PlanEntry) :
    (q.edit i g).width = q.width := rfl

@[simp] theorem Sequencer.timeout_edit (q : Sequencer) (i : StationId) (g : PlanEntry → PlanEntry) :
    (q.edit i g).timeout = q.timeout := rfl

@[simp] theorem Sequencer.cursor_edit (q : Sequencer) (i : StationId) (g : PlanEntry → PlanEntry) :
    (q.edit i g).cursor = q.cursor := rfl

@[simp] theorem Sequencer.length_edit (q : Sequencer) (i : StationId) (g : PlanEntry → PlanEntry) :
    (q.edit i g).entries.length = q.entries.length := by simp [Sequencer.edit]

@[simp] theorem Sequencer.entries_look (q : Sequencer) : q.look.entries = q.entries := rfl

@[simp] theorem Sequencer.state_look (q : Sequencer) : q.look.state = q.state := rfl

@[simp] theorem Sequencer.cursor_look (q : Sequencer) : q.look.cursor = q.cursor := rfl

@[simp] theorem Sequencer.entries_dropOwed (q : Sequencer) : q.dropOwed.entries = q.entries := rfl

@[simp] theorem Sequencer.state_dropOwed (q : Sequencer) : q.dropOwed.state = q.state := rfl

@[simp] theorem Sequencer.cursor_dropOwed (q : Sequencer) : q.dropOwed.cursor = q.cursor := rfl

/-- An edit that keeps stations keeps the plan's list of stations. -/
theorem Sequencer.stations_edit (q : Sequencer) (i : StationId) {g : PlanEntry → PlanEntry}
    (h : ∀ e, (g e).station = e.station) :
    (q.edit i g).entries.map PlanEntry.station = q.entries.map PlanEntry.station := by
  simp only [Sequencer.edit, List.map_map]
  apply List.map_congr_left
  intro e _
  simp only [Function.comp]
  split
  · exact h e
  · rfl

/-- An edit of another station's entry leaves an entry. -/
theorem Sequencer.mem_edit_of_ne {q : Sequencer} {i : StationId} {g : PlanEntry → PlanEntry} {e : PlanEntry}
    (h : e ∈ q.entries) (hne : e.station ≠ i) : e ∈ (q.edit i g).entries := by
  simp only [Sequencer.edit, List.mem_map]
  exact ⟨e, h, by simp [hne]⟩

/-! ### What the sequencer's own steps leave -/

/-- Every record but for its reports, the port, the masks, the reset line and the queue are as before. -/
def State.SameLines (s t : State) : Prop :=
  (∀ i, t.st i = { s.st i with toSequencer := (t.st i).toSequencer }) ∧ t.shore = s.shore ∧ s.KeepsDevice t

theorem State.SameLines.refl (s : State) : s.SameLines s := ⟨fun _ => rfl, rfl, rfl, rfl, rfl, rfl⟩

theorem State.SameLines.trans {a b c : State} (h : a.SameLines b) (k : b.SameLines c) : a.SameLines c := by
  refine ⟨fun i => ?_, k.2.1.trans h.2.1, k.2.2.1.trans h.2.2.1, k.2.2.2.1.trans h.2.2.2.1,
    k.2.2.2.2.1.trans h.2.2.2.2.1, k.2.2.2.2.2.trans h.2.2.2.2.2⟩
  rw [k.1 i, h.1 i]

theorem State.sameLines_onFace (s : State) (f : Face) (g : FaceState → FaceState) : s.SameLines (s.onFace f g) :=
  ⟨fun i => by rw [State.st_onFace], State.shore_onFace s f g, State.pending_onFace s f g, State.inReset_onFace s f g,
    State.urgentMasked_onFace s f g, State.routineMasked_onFace s f g⟩

theorem State.sameLines_onSeq (s : State) (f : Face) (g : Sequencer → Sequencer) : s.SameLines (s.onSeq f g) :=
  s.sameLines_onFace f _

theorem State.sameLines_dropReports (s : State) (f : Face) : s.SameLines (s.dropReports f) := by
  refine ⟨fun i => ?_, ?_, ?_, ?_, ?_, ?_⟩
  · simp only [State.dropReports, State.st_mapStations]
    split <;> rfl
  all_goals simp only [State.dropReports, State.mapStations]

theorem State.sameLines_testComplete (s : State) (f : Face) : s.SameLines (s.testComplete f) := by
  unfold State.testComplete
  dsimp only
  split
  · refine State.SameLines.trans ?_ (State.sameLines_dropReports _ f)
    exact (s.sameLines_onFace f _).trans (State.sameLines_onFace _ f _)
  · exact State.SameLines.refl s

theorem State.sameLines_failPause (s : State) (f : Face) : s.SameLines (s.failPause f) := by
  unfold State.failPause
  split
  · exact (s.sameLines_onSeq f _).trans (State.sameLines_onFace _ f _)
  · exact (s.sameLines_onSeq f _).trans (State.sameLines_onFace _ f _)
  all_goals exact State.SameLines.refl s

theorem State.sameLines_lookOn (s : State) (f : Face) : s.SameLines (s.lookOn f) := s.sameLines_onSeq f _

theorem State.sameLines_failEntry (s : State) (f : Face) (i : StationId) : s.SameLines (s.failEntry f i) :=
  (s.sameLines_onSeq f _).trans (State.sameLines_failPause _ f)

theorem State.sameLines_oweStart (s : State) (f : Face) (i : StationId) : s.SameLines (s.oweStart f i) := by
  unfold State.oweStart
  split
  · exact s.sameLines_onSeq f _
  · exact State.SameLines.refl s

theorem State.sameLines_takeEntered (s : State) (f : Face) (i : StationId) (entered : LineState) :
    s.SameLines (s.takeEntered f i entered) := by
  unfold State.takeEntered
  split
  · exact State.SameLines.refl s
  · split
    all_goals first
      | exact s.sameLines_onSeq f _
      | exact s.sameLines_failEntry f i
      | exact s.sameLines_oweStart f i
      | exact State.SameLines.refl s
      | exact ((s.sameLines_onSeq f _).trans (State.sameLines_testComplete _ f)).trans (State.sameLines_lookOn _ f)
      | (split
         · exact s.sameLines_lookOn f
         · exact State.SameLines.refl s)

theorem State.sameLines_takeEmptied (s : State) (f : Face) (i : StationId) : s.SameLines (s.takeEmptied f i) := by
  unfold State.takeEmptied
  split
  · exact State.SameLines.refl s
  · split
    · split
      · exact s.sameLines_lookOn f
      · exact State.SameLines.refl s
    · exact s.sameLines_oweStart f i
    · exact State.SameLines.refl s

theorem State.sameLines_takeLineReport (s : State) (i : StationId) (r : LineReport) :
    s.SameLines (s.takeLineReport i r) := by
  unfold State.takeLineReport
  split
  · exact State.SameLines.refl s
  · split
    · split
      · exact s.sameLines_takeEntered _ i _
      · exact s.sameLines_takeEmptied _ i
    · exact State.SameLines.refl s

theorem State.sameLines_takeLineReports (i : StationId) (p : LineReport → Bool) (rs : List LineReport) (s : State) :
    s.SameLines (State.takeLineReports i p rs s) := by
  induction rs generalizing s with
  | nil => exact State.SameLines.refl s
  | cons r rest ih =>
    have h1 : s.SameLines (s.setSt i { s.st i with toSequencer := rest }) := by
      refine ⟨fun j => ?_, rfl, rfl, rfl, rfl, rfl⟩
      rw [State.st_setSt]
      split
      · next h => subst h; rfl
      · rfl
    have h2 := h1.trans (State.sameLines_takeLineReport _ i r)
    unfold State.takeLineReports
    dsimp only
    split
    · exact h2
    · exact h2.trans (ih _)

/-! ### Claims that wait their turn (R134) -/

/-- A walk claim not owed, or behind start claims, changes nothing. -/
theorem State.walkOnce_waits {s : State} {f : Face} (h : (s.seq f).walkOwed = false ∨ (s.seq f).startsOwed ≠ []) :
    s.walkOnce f = s := by
  unfold State.walkOnce
  rcases h with h | h
  · simp [h]
  · simp [List.isEmpty_iff, h]

/-- A walk claim in its turn looks at the entry at the cursor. -/
theorem State.walkOnce_looks {s : State} {f : Face} {i : StationId} (h : (s.seq f).walkOwed = true)
    (hs : (s.seq f).startsOwed = []) (hl : (s.seq f).canLook = true) (hc : (s.seq f).cursorStation = some i) :
    s.walkOnce f = s.lookAt f i := by
  simp [State.walkOnce, h, hs, hl, hc]

/-- A start claim not owed, or owed after another, changes nothing. -/
theorem State.startOnce_waits {s : State} {f : Face} {i : StationId} (h : (s.seq f).startsOwed.head? ≠ some i) :
    s.startOnce f i = s := by
  simp [State.startOnce, h]

/-- The sequencer's taking of a report moves no line. -/
theorem State.sameLines_takeReportOf (s : State) (i : StationId) (p : LineReport → Bool) :
    s.SameLines (s.takeReportOf i p) := by
  unfold State.takeReportOf
  split
  · exact State.sameLines_takeLineReports i p _ s
  · exact State.SameLines.refl s

end Sys2Proof.Machine
end

