-- ==== Sys2Proof/Tests/Slice0.lean ====
section
/-! SUPPORT. The model's own tests: what the shape check refuses, figures and frames of the spec's examples, and for each
statement a concrete state and operands that meet its hypotheses, clause by clause. -/

namespace Sys2Proof.Tests

open Sys2Proof.Machine

/-! ### The shape check: for each check a term it accepts and one it refuses -/

theorem test_shape_shore_frame :
    (Instr.shoreFrameRefused [0x12, 9, 1, 3, 0]).WellFormed = true ∧
      (Instr.shoreFrameRefused [0x12, 9, 41]).WellFormed = true ∧
      (Instr.shoreFrameRefused [0x12, 9, 1, 3]).WellFormed = false ∧ (Instr.shoreFrameRefused []).WellFormed = false := by
  decide

theorem test_shape_ship_frame :
    (Instr.shipFrameRefused .north [0, 7, 0x10, 0, 0, 1]).WellFormed = true ∧
      (Instr.shipFrameRefused .north [0, 7, 0x10, 0, 7, 1]).WellFormed = false ∧
      (Instr.shipFrameRefused .north [0, 7, 0x10, 0, 0]).WellFormed = false := by decide

theorem test_shape_set_plan :
    (Instr.setPlan .north 1 120 [4]).WellFormed = true ∧ (Instr.setPlan .north 1 120 []).WellFormed = false ∧
      (Instr.setPlan .north 1 120 (List.replicate 17 4)).WellFormed = false := by decide

theorem test_shape_scopes :
    (Instr.readAttention (.other 2 0)).WellFormed = true ∧ (Instr.readAttention (.other 1 0)).WellFormed = false ∧
      (Instr.readAttention .device).WellFormed = false ∧
      (Instr.ackAttention (.station 3) (List.replicate 9 0)).WellFormed = true ∧
      (Instr.ackAttention (.station 3) (List.replicate 10 0)).WellFormed = false ∧
      (Instr.setSetting (.other 3 0) 1 1).WellFormed = true ∧ (Instr.setSetting (.other 2 0) 1 1).WellFormed = false ∧
      (Instr.getSetting (.other 2 0) 1).WellFormed = false := by decide

theorem test_shape_edges :
    (Instr.tmSample 3 [0, 5, 999999]).WellFormed = true ∧ (Instr.tmSample 3 [5, 5]).WellFormed = false ∧
      (Instr.tmSample 3 [1000000]).WellFormed = false := by decide

theorem test_shape_pulses :
    (Instr.shipFrameError .north [⟨true, 1⟩, ⟨false, 1⟩]).WellFormed = true ∧
      (Instr.shipFrameError .north [⟨true, 1⟩, ⟨true, 1⟩]).WellFormed = false ∧
      (Instr.shipFrameError .north [⟨true, 0⟩]).WellFormed = false ∧
      (Instr.shipFrameDiscardEnd .north [⟨true, 1⟩]).WellFormed = true ∧
      (Instr.shipFrameDiscardEnd .north []).WellFormed = false ∧
      (Instr.startMarkAccepted .north ⟨false, 1⟩ 0 0).WellFormed = true ∧
      (Instr.startMarkAccepted .north ⟨false, 0⟩ 0 0).WellFormed = false := by decide

theorem test_shape_levels :
    (Instr.encoderCount 5 [⟨true, false⟩]).WellFormed = true ∧ (Instr.encoderCount 5 []).WellFormed = false := by decide

/-- All but the last bit of an UNLOCK; all of it; a length byte of 41. -/
theorem test_shape_bits :
    (Instr.selectBegin []).WellFormed = true ∧
      (Instr.selectBegin ((frameBits [0x23, 5, 0, 0xD8]).take 31)).WellFormed = true ∧
      (Instr.selectBegin (frameBits [0x23, 5, 0, 0xD8])).WellFormed = false ∧
      (Instr.selectBegin (frameBits [0x12, 9, 41])).WellFormed = false := by decide +kernel

/-! ### Figures and frames of the spec's examples -/

theorem test_shore_frame_of_push_hold :
    shoreFrameOf (.pushHold (.host 9) 3) = some [0x12, 0x09, 0x01, 0x03, 0xE1] := by decide

theorem test_shore_frame_read : readShoreFrame [0x12, 0x09, 0x01, 0x03, 0xE1] = .request (.pushHold (.host 9) 3) := by
  decide +kernel

theorem test_tension_at_the_default_calibration :
    tensionOf 2000 1000 2425 = 2123 ∧ tensionOf 2000 1500 2425 = 3185 ∧ tensionOf 2000 1000 800 = 10000 ∧
      tensionOf 2000 1000 10000 = 0 := by decide

theorem test_no_word_spells_a_command (nbits w : Nat) : decodeTableWord nbits w = none := rfl

/-! ### Small states

`at5 c` has station 5 at the record `c`, in the NORTH window 4 to 8 with vessel tag 7; the shore port is RECEIVING and the
NORTH link holds a frame. -/

def at5 (c : Station) (grant : GrantState := .moored) : State :=
  { State.reset with
    stations := State.reset.stations.set 5 c
    northFace := { FaceState.reset with
      grant := grant, tag := 7, window := some ⟨4, 8⟩, link := { Link.reset with rx := .start } }
    shore := ⟨.receiving, true, 0, [], none, false⟩ }

/-- A record in a state, tagged, with its clamp OPEN. -/
def line (state : LineState) : Station :=
  { Station.reset with
    state := state, vesselTag := some 7, fittingTag := some 3
    drive := { Drive.reset with field := .opened, command := some .opened } }

/-- The record with its clamp field and command changed. -/
def clamped (c : Station) (field : ClampField) (command : ClampPosition) (deadline : Option Nat := none) : Station :=
  { c with drive := { c.drive with field := field, command := some command, deadline := deadline } }

/-- The record with a segment running. -/
def running (c : Station) (cur : Segment) (nxt : Option Segment := none) : Station :=
  { c with drive := { c.drive with mode := .running, cur := some cur, nxt := nxt } }

/-- The record with a list of samples. -/
def loaded (c : Station) (samples : List Nat) : Station := { c with monitor := { c.monitor with samples := samples } }

/-- A render segment and a heave segment on a tension. -/
def rendering : Segment := ⟨.render, 25, none, .tensionLe 299, false⟩
def heaving : Segment := ⟨.heave, 50, none, .tensionGe 1500, true⟩

/-- Selector 1 names station 5. -/
theorem selects5 (c : Station) (grant : GrantState) : (at5 c grant).Selects .north 1 5 :=
  ⟨⟨4, 8⟩, rfl, by decide, by decide, Or.inl ⟨by decide, rfl⟩⟩

/-- The NORTH sequencer of a state. -/
def withSeq (s : State) (q : Sequencer) (grant : GrantState := .departing) : State :=
  { s with northFace := { s.northFace with grant := grant, sequencer := q } }

/-- A running plan of station 5 alone, its entry in a status. -/
def planOf (status : EntryStatus) (cursor : Nat) : Sequencer :=
  { Sequencer.reset with entries := [⟨5, status, none, false⟩], state := .running, cursor := cursor }

/-! ### Each statement's hypotheses are met: the queue, reset and the two kinds of port -/

theorem test_met_queue : (∃ s : State, s.pending = [.ident, .summary]) ∧ State.reset.pending = [] :=
  ⟨⟨{ State.reset with pending := [.ident, .summary] }, rfl⟩, rfl⟩

theorem test_met_nothing_taken :
    (∃ s : State, s.inReset = true) ∧
      (∃ s : State, (shoreRequest .ident).isSome = true ∧ s.shore.phase ≠ .receiving) ∧
      ∃ s : State, shipFaceOf (.takeUp (.ship .south 7 0)) = some .south ∧
        (s.face .south).link.rx.holdsFrame = false :=
  ⟨⟨{ State.reset with inReset := true }, rfl⟩, ⟨State.reset, by decide⟩, ⟨State.reset, by decide⟩⟩

theorem test_met_reset_end : ∃ s : State, s.inReset = true ∧ s.AtReset := by
  refine ⟨{ State.reset with inReset := true }, rfl, ?_, ?_, rfl, rfl, rfl, rfl, rfl⟩
  · unfold State.Every
    decide +kernel
  · intro f
    cases f <;> decide

/-- The port before and after its edges, with no bit of a frame, with some of its bits and with others; an answer with and
without time for wait bytes. -/
theorem test_met_select_edges :
    (∃ s : State, s.inReset = false ∧ s.shore.selLow = false) ∧
    (∀ bits ∈ [[], (frameBits [0x23, 5, 0, 0xD8]).take 31], BeforeRequestEnd bits = true) ∧
    (∀ bits ∈ [[], [false, false], [true]],
      let s := { at5 (line .tended) with shore := ⟨.receiving, true, bits.length, bits, none, false⟩ }
      s.inReset = false ∧ s.shore.selLow = true ∧ s.shore.phase = .receiving ∧
        (s.shore.received <+: frameBits [0x23, 5, 0, 0xD8] ↔ bits ≠ [true])) ∧
    shoreFrameOf (.unlock 5) = some [0x23, 5, 0, 0xD8] ∧
    readShoreFrame [0x27, 5, 0, 0xD4] = .refused .unknownRequest ∧
    (∀ now ∈ [true, false],
      let s := { at5 (line .tended) with shore := ⟨.answering, true, 32, [], some ⟨.ok, []⟩, now⟩ }
      s.inReset = false ∧ s.shore.selLow = true ∧ s.shore.phase = .answering ∧ s.shore.answer = some ⟨.ok, []⟩ ∧
        s.shore.atOnce = now) ∧
    ∃ s : State, s.inReset = true :=
  ⟨⟨State.reset, by decide⟩, by decide +kernel, by decide +kernel, by decide, by decide +kernel, by decide,
    ⟨{ State.reset with inReset := true }, rfl⟩⟩

/-- Each of the port's checks, where it fails and where all pass: lengths 40 and 41, stations 23 and 24. -/
theorem test_met_port_checks :
    (∃ s : State, s.HostReady) ∧ 40 < (41 : Byte).toNat ∧ (List.replicate 40 (0 : Byte)).length ≤ 40 ∧
      portCheck 0x22 23 [] 0xC8 = some .badCheck ∧ portCheck 0x27 23 [] 0xC2 = some .unknownRequest ∧
      portCheck 0x22 23 [1] 0xC5 = some .badLength ∧ portCheck 0x22 24 [] 0xC6 = some .badTarget ∧
      portCheck 0x22 23 [] 0xC7 = none :=
  ⟨⟨at5 (line .tended), by decide⟩, by decide⟩

theorem test_met_frames :
    (∃ frame, Instr.WellFormed (.setPlan .north 1 120 [4]) = true ∧
      shoreFrameOf (.setPlan .north 1 120 [4]) = some frame) ∧
    ∃ frame, shipFaceOf (.requestBand .north 7 1 100 200) = some .north ∧
      shipFrameOf (.requestBand .north 7 1 100 200) = some frame :=
  ⟨⟨_, by decide, rfl⟩, ⟨_, by decide, rfl⟩⟩

/-- A frame of the longest payload; a pulse of 500 µs under the default unit, at the edge of its tick. -/
theorem test_met_line_code :
    (∃ (bytes : List Byte) (n : Byte), bytes[4]? = some n ∧ n.toNat ≤ 6 ∧ bytes.length = 6 + n.toNat) ∧
      (∃ (u : FaceSettings) (l : Link), 0 < u.linkUnit ∧ l.rxSettings = u) ∧
      ∃ u : FaceSettings, 8 * (125 * u.linkUnit) ≤ 500000 ∧ 500000 < (8 + 1) * (125 * u.linkUnit) ∧
        u.receivePolarity = 0 :=
  ⟨⟨[0, 7, 0x15, 1, 6, 1, 2, 3, 4, 5, 6, 0], 6, by decide⟩, ⟨{}, Link.reset, by decide⟩, ⟨{}, by decide⟩⟩

/-! ### Reading and access -/

theorem test_met_ship_access :
    (∃ s : State, s.ShipReady .north 7 ∧ s.Selects .north 1 5) ∧
      (∃ s : State, s.inReset = false ∧ (s.face .north).link.rx.holdsFrame = true ∧
        (s.face .north).grant = .vacant) ∧
      (∃ s : State, s.inReset = false ∧ (s.face .north).link.rx.holdsFrame = true ∧
        (s.face .north).grant ≠ .vacant ∧ (8 : Half) ≠ (s.face .north).tag) ∧
      (∃ s : State, (s.face .north).grant = .cleared ∧ (7 : Half) = (s.face .north).tag) ∧
      ((0xE4 : Byte) = 0x80 ∨ 0xE4 ≤ (0xE4 : Byte).toNat) ∧
      (∃ s : State, s.MooringServed .north ∧ (5 : Byte).toNat ≤ 0x7F ∧ ∀ w, (s.face .north).window = some w →
        w.Valid ∧ w.size ≤ (5 : Byte).toNat) ∧
      ∃ s : State, s.MooringServed .north ∧ 0x81 ≤ (0xE3 : Byte).toNat ∧ (0xE3 : Byte).toNat ≤ 0xE3 ∧
        ∀ j, inWindow (s.face .north).window j = true → (s.st j).fittingTag ≠ some ((0xE3 : Byte) - 0x80) :=
  ⟨⟨at5 (line .tended), by decide, selects5 _ _⟩, ⟨at5 (line .tended) .vacant, by decide⟩,
    ⟨at5 (line .tended), by decide⟩, ⟨at5 (line .tended) .cleared, by decide⟩, by decide,
    ⟨at5 (line .tended), by decide, by decide, fun w hw => by cases hw; decide⟩,
    ⟨at5 (line .tended), by decide +kernel⟩⟩

theorem test_met_views :
    (∃ s : State, (s.st 5).holds.length ≤ 2 ∧ (s.seq .north).entries[0]? = some ⟨5, .easing, none, false⟩) ∧
    (∀ a ∈ [1499, 1500, 3000, 3001], ((at5 (loaded (line .tended) [a])).st 5).average = some a ∧
      ((at5 (loaded (line .tended) [a])).st 5).band = some ⟨1500, 3000⟩) ∧
    (∃ s : State, (s.st 5).Runs rendering none) ∧ (∃ s : State, (s.st 5).drive.mode = .free) ∧
    ∃ s : State, (s.st 5).drive.mode = .idle ∧ (s.st 5).drive.command = some .opened :=
  ⟨⟨withSeq (at5 { line .tended with holds := [⟨.shore, 1⟩, ⟨.ship, 2⟩] }) (planOf .easing 1), by decide⟩, by decide,
    ⟨at5 { line .tended with drive := { Drive.reset with mode := .running, dir := .render, cur := some rendering } },
      by unfold Station.Runs; decide⟩,
    ⟨at5 { line .slack with drive := { Drive.reset with mode := .free } }, by decide⟩, ⟨at5 (line .tended), by decide⟩⟩

/-! ### Holds, band and fitting tag -/

theorem test_met_push :
    (∃ s : State, s.HostReady ∧ s.ShipReady .north 7 ∧ s.Selects .north 1 5 ∧ (s.st 5).holds.length < 2 ∧
      (s.st 5).state = .locked) ∧
    (∃ s : State, s.HostReady ∧ (s.st 5).state = .easing ∧ (s.st 5).holds = []) ∧
    (∃ s : State, s.HostReady ∧ (s.st 5).state = .rewind) ∧ (∃ s : State, s.HostReady ∧ (s.st 5).state = .halted) ∧
    ∃ s : State, s.HostReady ∧ (s.st 5).state = .tended ∧ 2 ≤ (s.st 5).holds.length :=
  ⟨⟨at5 { line .locked with holds := [⟨.ship, 1⟩] }, by decide, by decide, selects5 _ _, by decide⟩,
    ⟨at5 (line .easing), by decide⟩, ⟨at5 (line .rewind), by decide⟩, ⟨at5 (line .halted), by decide⟩,
    ⟨at5 { line .tended with holds := [⟨.ship, 1⟩, ⟨.shore, 2⟩] }, by decide⟩⟩

theorem test_met_ship_push :
    ∀ c ∈ [line .easing, line .slack, line .rewind, line .stowed, line .halted,
      { line .fault with holds := [⟨.ship, 1⟩, ⟨.shore, 2⟩] }],
    (at5 c).ShipReady .north 7 ∧ (at5 c).st 5 = c ∧ (c.state = .fault → 2 ≤ c.holds.length) ∧
      (c.state = .easing → c.holds = []) := by decide +kernel

theorem test_met_pop :
    (∃ s : State, s.HostReady ∧ s.ShipReady .north 7 ∧ s.Selects .north 1 5 ∧ (s.st 5).holds = []) ∧
      (∃ s : State, s.HostReady ∧ s.ShipReady .north 7 ∧ s.Selects .north 1 5 ∧
        (s.st 5).holds = [⟨.ship, 1⟩, ⟨.shore, 2⟩]) ∧
      ∃ s : State, s.HostReady ∧ s.ShipReady .north 7 ∧ s.Selects .north 1 5 ∧ (s.st 5).holds = [⟨.shore, 1⟩] :=
  ⟨⟨at5 (line .tended), by decide, by decide, selects5 _ _, by decide⟩,
    ⟨at5 { line .tended with holds := [⟨.ship, 1⟩, ⟨.shore, 2⟩] }, by decide, by decide, selects5 _ _, by decide⟩,
    ⟨at5 { line .tended with holds := [⟨.shore, 1⟩] }, by decide, by decide, selects5 _ _, by decide⟩⟩

/-- Bands at the edge of the test: low 0.1 and high 5.1 kN, high 1000.0 kN, a gap of 4.9 kN; a band below the floor. -/
theorem test_met_band :
    (∃ s : State, s.HostReady ∧ s.ShipReady .north 7 ∧ s.Selects .north 1 5 ∧ (s.st 5).state.takesBand = true ∧
      1000 = min (s.face .north).settings.bandCeiling (max (s.face .north).settings.bandFloor (1 : Half).toNat) ∧
      4000 = min (s.face .north).settings.bandCeiling (max (s.face .north).settings.bandFloor (10000 : Half).toNat)) ∧
    (0 < (1 : Half).toNat ∧ (1 : Half).toNat + 50 ≤ (51 : Half).toNat ∧ (10000 : Half).toNat ≤ 10000) ∧
    ¬(0 < (1 : Half).toNat ∧ (1 : Half).toNat + 50 ≤ (50 : Half).toNat ∧ (50 : Half).toNat ≤ 10000) ∧
    ¬(0 < 1000 ∧ 1000 + 50 ≤ 1000 ∧ 1000 ≤ 10000) ∧
    (∃ s : State, s.HostReady ∧ s.ShipReady .north 7 ∧ s.Selects .north 1 5 ∧ (s.st 5).state.takesBand = false ∧
      (s.st 5).state = .slack) :=
  ⟨⟨at5 (line .easing), by decide, by decide, selects5 _ _, by decide⟩, by decide, by decide, by decide,
    ⟨at5 (line .slack), by decide, by decide, selects5 _ _, by decide⟩⟩

theorem test_met_mark :
    (∃ s : State, s.HostReady ∧ s.ShipReady .north 7 ∧ s.MooringServed .north ∧ s.Selects .north 1 5 ∧
      (s.st 5).state = .payout ∧ 1 ≤ (99 : Byte).toNat ∧ (99 : Byte).toNat ≤ 99 ∧ s.tagTaken 5 99 = false) ∧
    (∃ s : State, s.HostReady ∧ (s.st 5).state = .tended ∧ s.tagTaken 5 4 = true) ∧
    (∃ s : State, s.ShipReady .north 7 ∧ s.MooringServed .north ∧ s.Selects .north 1 5 ∧
      (s.st 5).state = .payout ∧ s.tagTaken 5 4 = true) ∧
    (99 < (100 : Byte).toNat ∧ (0 : Byte).toNat = 0) ∧
    ∃ s : State, s.HostReady ∧ s.ShipReady .north 7 ∧ s.MooringServed .north ∧ s.Selects .north 1 5 ∧
      (s.st 5).state = .fault ∧ (s.st 5).state ≠ .payout :=
  ⟨⟨at5 (line .payout) .approach, by decide, by decide, by decide, selects5 _ _, by decide +kernel⟩,
    ⟨(at5 (line .tended)).setSt 6 { line .tended with fittingTag := some 4 }, by decide +kernel⟩,
    ⟨(at5 (line .payout)).setSt 6 { line .tended with fittingTag := some 4 }, by decide +kernel,
      by decide +kernel, ⟨⟨4, 8⟩, rfl, by decide, by decide, Or.inl ⟨by decide, rfl⟩⟩, by decide +kernel⟩, by decide,
    ⟨at5 (line .fault), by decide, by decide, by decide, selects5 _ _, by decide⟩⟩

/-! ### Line states -/

theorem test_met_payout :
    (∃ s : State, s.HostReady ∧ (s.st 5).state = .stowed ∧ 1 ≤ (25000 : Half).toNat ∧ (25000 : Half).toNat ≤ 25000 ∧
      s.faceOf 5 = some .north ∧ s.MooringServed .north ∧ (s.face .north).erActive = false ∧
      (s.st 5).monitor.failed = false ∧ (s.st 5).drive.homeClosed = true ∧ (s.st 5).drive.field = .opened) ∧
    (∃ s : State, s.HostReady ∧ (s.st 5).state = .payout ∧ (s.st 5).drive.payout.getD 0 < (2 : Half).toNat ∧
      (s.st 5).drive.field = .opened) ∧
    ∃ s : State, s.HostReady ∧ (s.st 5).state = .payout ∧ (2 : Half).toNat ≤ (s.st 5).drive.payout.getD 0 :=
  ⟨⟨at5 { line .stowed with drive := { Drive.reset with field := .opened, homeClosed := true } }, by decide⟩,
    ⟨at5 { line .payout with drive := { Drive.reset with field := .opened, payout := some 1 } }, by decide⟩,
    ⟨at5 { line .payout with drive := { Drive.reset with field := .opened, payout := some 2 } }, by decide⟩⟩

/-- The band low and the midpoint are the edges of the three clauses: averages 149.9, 150.0 and 225.0 kN. -/
theorem test_met_take_up :
    (∃ s : State, (s.st 5).band = some ⟨1500, 3000⟩ ∧ s.HostReady ∧ (s.st 5).state = .payout ∧
      (s.st 5).fittingTag ≠ none ∧ (s.st 5).monitor.failed = false ∧ (s.st 5).drive.field = .opened ∧
      (s.st 5).drive.homeClosed = false ∧ (s.st 5).drive.payout ≠ some 0 ∧
      (s.st 5).average.all (fun a => decide (a < 1500)) = true) ∧
    (at5 (loaded (line .payout) [1500])).st 5 = loaded (line .payout) [1500] ∧
    (loaded (line .payout) [1500]).average.any
      (fun a => decide (1500 ≤ a) && decide (a < Band.midpoint ⟨1500, 3000⟩)) = true ∧
    (loaded (line .payout) [2250]).average.any
      (fun a => decide (1500 ≤ a) && decide (Band.midpoint ⟨1500, 3000⟩ ≤ a)) = true ∧
    ∃ s : State, s.HostReady ∧ (s.st 5).state = .payout ∧ (s.st 5).fittingTag ≠ none ∧
      (s.st 5).drive.payout = some 0 :=
  ⟨⟨at5 (loaded (line .payout) [1499]), by decide⟩, by decide, by decide, by decide,
    ⟨at5 { line .payout with drive := { Drive.reset with payout := some 0 } }, by decide⟩⟩

theorem test_met_lock_unlock :
    (∀ c ∈ [line .tended, clamped (line .tended) .opening .opened (some 30)],
      (at5 c).HostReady ∧ (at5 c).st 5 = c ∧ c.state = .tended ∧ c.drive.reading ≠ .closedOnly) ∧
    ∀ c ∈ [clamped (line .locking) .closing .closed (some 30), clamped (line .locked) .closed .closed, line .locked],
      (at5 c).HostReady ∧ (at5 c).st 5 = c ∧ (c.state = .locking ∨ c.state = .locked) ∧
        c.drive.reading ≠ .openOnly := by decide +kernel

/-- The same two requests with switches that already show the position ordered. -/
theorem test_met_lock_unlock_at_once :
    (∃ s : State, s.HostReady ∧ (s.st 5).state = .tended ∧ (s.st 5).drive.field ≠ .closed ∧
      (s.st 5).drive.reading = .closedOnly) ∧
    ∀ state ∈ [LineState.locking, .locked],
      let c := { line state with drive := { Drive.reset with field := .closing, reading := .openOnly } }
      (at5 c).HostReady ∧ (at5 c).st 5 = c ∧ c.drive.field ≠ .opened ∧ c.drive.reading = .openOnly :=
  ⟨⟨at5 { line .tended with drive := { Drive.reset with field := .opening, reading := .closedOnly } }, by decide⟩,
    by decide +kernel⟩

/-- The release threshold is the edge of the two clauses with the clamp OPEN: averages 30.0 and 29.9 kN. -/
theorem test_met_release :
    (∃ s : State, s.HostReady ∧ s.inRunningPlan 5 = false ∧ (s.st 5).holds = [] ∧ (s.st 5).state = .tended ∧
      (s.st 5).drive.field = .opened ∧
      (s.st 5).average.all (fun a => decide ((s.st 5).settings.releaseThreshold - 1 < a)) = true) ∧
    (∃ s : State, s.HostReady ∧ s.inRunningPlan 5 = false ∧ (s.st 5).state = .tended ∧
      (s.st 5).average.any (fun a => decide (a ≤ (s.st 5).settings.releaseThreshold - 1)) = true) ∧
    (∃ s : State, s.HostReady ∧ s.inRunningPlan 5 = false ∧ (s.st 5).state = .locked ∧
      (s.st 5).drive.field ≠ .opened ∧ (s.st 5).drive.field ≠ .opening ∧ (s.st 5).drive.reading ≠ .openOnly) ∧
    (∃ s : State, s.HostReady ∧ s.inRunningPlan 5 = false ∧ (s.st 5).state = .tended ∧
      (s.st 5).drive.field = .opening) ∧
    (∃ s : State, s.HostReady ∧ s.inRunningPlan 5 = false ∧ (s.st 5).state = .locked ∧ (s.st 5).holds = [] ∧
      (s.st 5).drive.field = .closed ∧ (s.st 5).drive.reading = .openOnly ∧ (s.st 5).average = none) ∧
    ∃ s : State, s.HostReady ∧ s.inRunningPlan 5 = false ∧ (s.st 5).holds = [] ∧ (s.st 5).state = .payout ∧
      (s.st 5).fittingTag ≠ none :=
  ⟨⟨at5 (loaded (line .tended) [300]), by decide⟩, ⟨at5 (loaded (line .tended) [299]), by decide⟩,
    ⟨at5 (clamped (line .locked) .closed .closed), by decide⟩,
    ⟨at5 (clamped (line .tended) .opening .opened (some 30)), by decide⟩,
    ⟨at5 { line .locked with drive := { Drive.reset with field := .closed, reading := .openOnly } }, by decide⟩,
    ⟨at5 (line .payout), by decide⟩⟩

theorem test_met_wind_home :
    (∃ s : State, s.HostReady ∧ (s.st 5).state = .payout ∧ (s.st 5).fittingTag = none ∧ (s.st 5).holds = [] ∧
      (s.st 5).drive.field = .opened ∧ (s.st 5).drive.homeClosed = false ∧ (s.st 5).drive.payout ≠ some 0) ∧
    (∃ s : State, s.HostReady ∧ (s.st 5).state = .slack ∧ (s.st 5).drive.field = .opened ∧
      (s.st 5).drive.homeClosed = false ∧ (s.st 5).drive.payout = some 0 ∧ (s.st 5).settings.homeMargin ≠ 0) ∧
    (∃ s : State, s.HostReady ∧ (s.st 5).state = .slack ∧ (s.st 5).drive.field = .opened ∧
      (s.st 5).drive.homeClosed = false ∧ (s.st 5).drive.payout = some 0 ∧ (s.st 5).settings.homeMargin = 0) ∧
    (∃ s : State, s.HostReady ∧ (s.st 5).state = .slack ∧ (s.st 5).drive.field = .opened ∧
      (s.st 5).drive.homeClosed = true) ∧
    ∃ s : State, s.HostReady ∧ (s.st 5).state = .slack ∧ (s.st 5).drive.field ≠ .opened :=
  ⟨⟨at5 { line .payout with fittingTag := none }, by decide⟩,
    ⟨at5 { line .slack with drive := { Drive.reset with field := .opened, payout := some 0 } }, by decide⟩,
    ⟨at5 { line .slack with
      drive := { Drive.reset with field := .opened, payout := some 0 }, settings := { homeMargin := 0 } }, by decide⟩,
    ⟨at5 { line .slack with drive := { Drive.reset with field := .opened, homeClosed := true } }, by decide⟩,
    ⟨at5 (clamped (line .slack) .opening .opened (some 30)), by decide⟩⟩

theorem test_met_clear_fault :
    (∃ s : State, s.HostReady ∧ (s.st 5).state = .fault ∧ (s.grantTag 5).isSome = true ∧
      (s.st 5).drive.field = .opened ∧ (s.st 5).fittingTag ≠ none ∧ (s.st 5).monitor.failed = false ∧
      (s.st 5).holds = []) ∧
    (∃ s : State, s.HostReady ∧ (s.st 5).state = .fault ∧ (s.grantTag 5).isSome = true ∧
      (s.st 5).drive.field = .closed) ∧
    (∃ s : State, s.HostReady ∧ (s.st 5).state = .fault ∧ (s.st 5).fault.map FaultInfo.cause = some .parted ∧
      (s.st 5).holds = [] ∧ (s.st 5).drive.field = .opened ∧ (s.st 5).drive.homeClosed = false ∧
      (s.st 5).drive.payout ≠ some 0) ∧
    (∃ s : State, s.HostReady ∧ (s.st 5).state = .fault ∧ (s.st 5).holds ≠ []) ∧
    (∃ s : State, s.HostReady ∧ (s.st 5).state = .fault ∧ (s.grantTag 5).isSome = true ∧
      (s.st 5).drive.field = .opened ∧ (s.st 5).fittingTag ≠ none ∧ (s.st 5).monitor.failed = true) ∧
    (∀ d ∈ [{ Drive.reset with field := .opened, homeClosed := true },
        { Drive.reset with field := .opened, payout := some 0 }],
      let s := at5 { line .fault with fittingTag := none, drive := d }
      s.HostReady ∧ (s.st 5).state = .fault ∧ (s.st 5).fittingTag = none ∧ (s.st 5).holds = [] ∧
        (s.st 5).drive = d ∧ (s.st 5).settings.homeMargin ≠ 0) ∧
    (∃ s : State, s.HostReady ∧ (s.st 5).state = .fault ∧ (s.st 5).fittingTag = none ∧ (s.st 5).holds = [] ∧
      (s.st 5).drive.field = .opened ∧ (s.st 5).drive.homeClosed = false ∧ (s.st 5).drive.payout = some 0 ∧
      (s.st 5).settings.homeMargin = 0) ∧
    (∃ s : State, s.HostReady ∧ (s.st 5).state = .fault ∧ (s.st 5).fittingTag ≠ none ∧
      (s.st 5).fault.map FaultInfo.cause ≠ some .parted) ∧
    (∃ s : State, s.HostReady ∧ (s.st 5).state = .fault ∧ (s.st 5).fittingTag = none ∧ (s.st 5).holds ≠ []) ∧
    (∃ s : State, s.HostReady ∧ (s.st 5).state = .fault ∧ (s.st 5).fittingTag = none ∧ (s.st 5).holds = [] ∧
      (s.st 5).drive.field = .opening ∧ (s.st 5).drive.reading ≠ .openOnly) ∧
    ∃ s : State, s.HostReady ∧ (s.st 5).state = .fault ∧ (s.grantTag 5).isSome = false :=
  ⟨⟨at5 (line .fault), by decide⟩, ⟨at5 (clamped (line .fault) .closed .closed), by decide⟩,
    ⟨at5 { line .fault with fault := some ⟨.parted, .tended⟩ }, by decide⟩,
    ⟨at5 { line .fault with holds := [⟨.ship, 1⟩] }, by decide⟩,
    ⟨at5 { line .fault with monitor := { Monitor.reset with failed := true } }, by decide⟩,
    by decide +kernel,
    ⟨at5 { line .fault with
      fittingTag := none, settings := { homeMargin := 0 }
      drive := { Drive.reset with field := .opened, payout := some 0 } }, by decide⟩,
    ⟨at5 { line .fault with fault := some ⟨.stall, .heave⟩ }, by decide⟩,
    ⟨at5 { line .fault with fittingTag := none, holds := [⟨.ship, 1⟩] }, by decide⟩,
    ⟨at5 { clamped (line .fault) .opening .opened (some 30) with fittingTag := none }, by decide⟩,
    ⟨at5 (line .fault) .vacant, by decide⟩⟩

theorem test_met_adopt :
    (∃ s : State, s.HostReady ∧ (s.st 5).state = .halted ∧ (s.st 5).drive.homeClosed = true) ∧
    (∃ s : State, s.HostReady ∧ (s.st 5).state = .halted ∧ (s.grantTag 5).isSome = true ∧
      (s.st 5).drive.field = .closed ∧ s.tagTaken 5 99 = false ∧
      (3 : Byte) = (if (some (99 : Byte)).isSome then 1 else 0) + (if (some ((1 : Half), (51 : Half))).isSome then 2 else 0) ∧
      0 < (1 : Half).toNat ∧ (1 : Half).toNat + 50 ≤ (51 : Half).toNat ∧ (51 : Half).toNat ≤ 10000) ∧
    (∃ s : State, s.HostReady ∧ (s.st 5).state = .halted ∧ (s.grantTag 5).isSome = true ∧
      (s.st 5).drive.field = .opened ∧ (s.st 5).monitor.failed = false) ∧
    ∃ s : State, s.HostReady ∧ (s.st 5).state = .halted ∧ (s.st 5).drive.field = .unknown ∧
      (s.st 5).drive.reading ≠ .openOnly :=
  ⟨⟨at5 { Station.reset with drive := { Drive.reset with homeClosed := true } }, by decide⟩,
    ⟨at5 { Station.reset with drive := { Drive.reset with field := .closed } }, by decide +kernel⟩,
    ⟨at5 { Station.reset with drive := { Drive.reset with field := .opened } }, by decide⟩,
    ⟨at5 Station.reset, by decide⟩⟩

/-- Tags 0, 1, 99 and 100 and presence marks 3 and 4 bound the checks; each check of a target fails in some state. -/
theorem test_met_adopt_refusals :
    (∀ c ∈ [Station.reset, { Station.reset with drive := { Drive.reset with field := .closed } },
        { Station.reset with drive := { Drive.reset with field := .opened } },
        { Station.reset with
          drive := { Drive.reset with field := .opened }, monitor := { Monitor.reset with failed := true } }],
      (at5 c).HostReady ∧ (at5 c).st 5 = c ∧ c.state = .halted ∧ c.drive.homeClosed = false ∧
        ((at5 c).grantTag 5).isSome = true ∧ ((at5 c .vacant).grantTag 5).isSome = false ∧
        ((at5 c).setSt 6 (line .tended)).tagTaken 5 3 = true) ∧
    (3 : Byte).toNat < 4 ∧ 4 ≤ (4 : Byte).toNat ∧ (3 : Byte).getLsbD 0 = true ∧ (3 : Byte).getLsbD 1 = true ∧
    ((0 : Byte).toNat = 0 ∨ 99 < (0 : Byte).toNat) ∧ 99 < (100 : Byte).toNat ∧
    (1 ≤ (1 : Byte).toNat ∧ (99 : Byte).toNat ≤ 99) := by decide +kernel

theorem test_met_line_refusals :
    (∃ s : State, s.HostReady ∧ (s.st 5).state = .stowed ∧ ∀ f, s.faceOf 5 = some f → ¬s.MooringServed f) ∧
    (∃ s : State, s.HostReady ∧ (s.st 5).state = .stowed ∧ s.faceOf 5 = some .north ∧ s.MooringServed .north ∧
      (s.face .north).erActive = true) ∧
    (∃ s : State, s.HostReady ∧ (s.st 5).state = .stowed ∧ s.faceOf 5 = some .north ∧ s.MooringServed .north ∧
      (s.face .north).erActive = false ∧ (s.st 5).monitor.failed = true) ∧
    (∃ s : State, s.HostReady ∧ (s.st 5).state = .stowed ∧ s.faceOf 5 = some .north ∧ s.MooringServed .north ∧
      (s.face .north).erActive = false ∧ (s.st 5).monitor.failed = false ∧ (s.st 5).drive.homeClosed = false) ∧
    (∃ s : State, s.HostReady ∧ (s.st 5).state = .fault) ∧
    (∃ s : State, s.HostReady ∧ (s.st 5).state = .payout ∧ (s.st 5).fittingTag ≠ none ∧
      (s.st 5).monitor.failed = true) ∧
    (∃ s : State, s.HostReady ∧ (s.st 5).state = .tended ∧ s.inRunningPlan 5 = true) ∧
    (∃ s : State, s.HostReady ∧ (s.st 5).state = .tended ∧ s.inRunningPlan 5 = false ∧ (s.st 5).holds ≠ []) ∧
    (∃ s : State, s.HostReady ∧ (s.st 5).state = .payout ∧ s.inRunningPlan 5 = false ∧ (s.st 5).holds = [] ∧
      (s.st 5).fittingTag = none) ∧
    ∃ s : State, s.HostReady ∧ (s.st 5).state = .payout ∧ (s.st 5).fittingTag = none ∧ (s.st 5).holds ≠ [] :=
  ⟨⟨at5 (line .stowed) .cleared, by decide +kernel⟩,
    ⟨{ at5 (line .stowed) with northFace := { (at5 (line .stowed)).northFace with erActive := true } },
      by decide +kernel⟩,
    ⟨at5 { line .stowed with monitor := { Monitor.reset with failed := true } }, by decide +kernel⟩,
    ⟨at5 (line .stowed), by decide +kernel⟩, ⟨at5 (line .fault), by decide⟩,
    ⟨at5 { line .payout with monitor := { Monitor.reset with failed := true } }, by decide⟩,
    ⟨withSeq (at5 (line .tended)) (planOf .waiting 0), by decide⟩,
    ⟨at5 { line .tended with holds := [⟨.ship, 1⟩] }, by decide⟩,
    ⟨at5 { line .payout with fittingTag := none }, by decide⟩,
    ⟨at5 { line .payout with fittingTag := none, holds := [⟨.ship, 1⟩] }, by decide⟩⟩

/-! ### Faces, settings and plans -/

/-- Base above limit, limit 24, a window of 17 stations; a window of 16 is none of them. -/
theorem test_met_window_values :
    (∃ s : State, s.HostReady) ∧
    (∀ x ∈ [((5 : Byte), (4 : Byte)), (20, 24), (0, 16)], ¬(x.1 = 0xFF ∧ x.2 = 0xFF) ∧
      (x.2.toNat < x.1.toNat ∨ 23 < x.2.toNat ∨ 16 < x.2.toNat - x.1.toNat + 1)) ∧
    ¬((15 : Byte).toNat < (0 : Byte).toNat ∨ 23 < (15 : Byte).toNat ∨ 16 < (15 : Byte).toNat - (0 : Byte).toNat + 1) :=
  ⟨⟨at5 (line .tended), by decide⟩, by simp, by simp⟩

theorem test_met_set_window :
    (∃ (s : State) (x : Window), s.HostReady ∧ x.Valid ∧ x = ⟨0, 15⟩ ∧ (s.face .north).grant = .vacant ∧
      s.windowAll (s.face .north).window Station.atRest = true ∧ s.windowAll (some x) Station.atRest = true ∧
      ∀ i, inWindow (some x) i = true → inWindow (s.face .south).window i = false) ∧
    (∃ s : State, s.HostReady ∧ (s.face .north).grant ≠ .vacant) ∧
    (∃ s : State, s.HostReady ∧ (s.face .north).grant = .vacant ∧
      s.windowAll (s.face .north).window Station.atRest = false) ∧
    ∃ s : State, s.HostReady ∧ (s.face .south).grant = .vacant ∧
      s.windowAll (s.face .south).window Station.atRest = true ∧
      s.windowAll (some ⟨8, 9⟩) Station.atRest = true ∧
      ∃ i, inWindow (some ⟨8, 9⟩) i = true ∧ inWindow (s.face (otherFace .south)).window i = true :=
  ⟨⟨at5 Station.reset .vacant, ⟨0, 15⟩, by decide +kernel⟩, ⟨at5 Station.reset, by decide⟩,
    ⟨at5 (line .tended) .vacant, by decide +kernel⟩, ⟨at5 Station.reset, by decide +kernel⟩⟩

theorem test_met_grants :
    (∃ s : State, s.HostReady ∧ (s.face .north).grant = .vacant ∧ (8 : Half) ≠ 0 ∧
      (8 : Half) ≠ (s.face .south).tag ∧ (s.face .north).window ≠ none ∧ (s.face .north).erActive = false ∧
      s.windowAll (s.face .north).window Station.atRest = true) ∧
    (∃ s : State, s.HostReady ∧ (s.face .north).grant = .vacant ∧ (s.face .north).window ≠ none ∧
      (s.face .north).erActive = true) ∧
    (∃ s : State, s.HostReady ∧ (s.face .north).grant = .approach ∧
      (s.face .north).settings.minimumLines ≤ s.securedCount .north) ∧
    (∃ s : State, s.HostReady ∧ (s.face .north).grant = .approach ∧
      s.securedCount .north < (s.face .north).settings.minimumLines) ∧
    (∃ s : State, s.HostReady ∧ (s.face .north).grant = .cleared ∧
      s.windowAll (s.face .north).window (fun c => decide (c.state = .stowed)) = true) ∧
    (∃ s : State, s.HostReady ∧ (s.face .north).grant = .cleared ∧
      s.windowAll (s.face .north).window (fun c => decide (c.state = .stowed)) = false) ∧
    (∃ s : State, s.HostReady ∧ (s.face .north).grant = .moored) ∧
    (∃ s : State, s.HostReady ∧ (s.face .south).grant = .vacant ∧ (s.face (otherFace .south)).tag = 7 ∧
      (8 : Half) ≠ (s.face (otherFace .south)).tag ∧ (s.face .south).window = none) ∧
    ∃ s : State, s.HostReady ∧ (s.face .north).grant = .vacant ∧ (8 : Half) ≠ 0 ∧
      (8 : Half) ≠ (s.face (otherFace .north)).tag ∧ (s.face .north).window ≠ none ∧
      (s.face .north).erActive = false ∧ s.windowAll (s.face .north).window Station.atRest = false :=
  let one (c : Station) (g : GrantState) (er : Bool) : State :=
    { at5 c g with northFace := { (at5 c g).northFace with
      window := some ⟨5, 5⟩, erActive := er, settings := { minimumLines := 1 } } }
  ⟨⟨one (line .stowed) .vacant false, by decide +kernel⟩, ⟨one (line .stowed) .vacant true, by decide⟩,
    ⟨one (line .tended) .approach false, by decide +kernel⟩, ⟨one (line .heave) .approach false, by decide +kernel⟩,
    ⟨one (line .stowed) .cleared false, by decide +kernel⟩, ⟨one (line .halted) .cleared false, by decide +kernel⟩,
    ⟨one (line .tended) .moored false, by decide⟩, ⟨one (line .tended) .moored false, by decide⟩,
    ⟨one (line .rewind) .vacant false, by decide +kernel⟩⟩

/-- Item 0x1D is the last of a station and 0x4A the last of a face; 0x1E and 0x4B name none. A calibration of a STOWED line and
of a TENDED one, a link item of a VACANT face and of a MOORED one, values at the ends of their ranges and beside them, pairs
at their gap of 5.0 kN and below it. -/
theorem test_met_settings :
    (∃ s : State, s.HostReady ∧ (StationItem.travelLimit, 0x1D, 5, 100) ∈ stationItemTable ∧ (0x1D : Byte).toNat = 0x1D ∧
      5 ≤ (100 : Half).toNat ∧ (100 : Half).toNat ≤ 100 ∧ 100 < (101 : Half).toNat ∧ (4 : Half).toNat < 5) ∧
    (∃ s : State, s.HostReady ∧ (StationItem.f0, 0x11, 500, 15000) ∈ stationItemTable ∧ (s.st 5).state = .stowed ∧
      (s.st 5).settings.get .f0 ≠ (500 : Half).toNat) ∧
    (∃ s : State, s.HostReady ∧ (s.st 5).state = .tended ∧ ¬((s.st 5).state = .stowed ∨ (s.st 5).state = .halted)) ∧
    stationPairKept {} 0x01 2950 ∧ ¬stationPairKept {} 0x01 2951 ∧ stationPairKept {} 0x1D 5 ∧
    facePairKept {} 0x41 3950 ∧ ¬facePairKept {} 0x41 3951 ∧
    (∃ s : State, s.HostReady ∧ (FaceItem.answerErrors, 0x4A, 0, 1) ∈ faceItemTable ∧
      (s.face .south).grant = .vacant ∧ (s.face .north).grant ≠ .vacant ∧ 1 < (2 : Half).toNat) ∧
    (∀ r ∈ stationItemTable, r.2.1 ≠ (0x1E : Byte).toNat) ∧ ∀ r ∈ faceItemTable, r.2.1 ≠ (0x4B : Byte).toNat := by
  unfold stationPairKept facePairKept
  exact ⟨⟨at5 (line .tended), by decide⟩, ⟨at5 (line .stowed), by decide⟩, ⟨at5 (line .tended), by decide⟩, by decide,
    by decide, by decide, by decide, by decide, ⟨at5 (line .tended), by decide⟩, by decide, by decide⟩

/-- The two tables are the items' own numbers and ranges. -/
theorem test_item_tables :
    stationItemTable.map (fun r => (r.1, r.2.1)) = StationItem.all.mapIdx (fun n k => (k, 0x01 + n)) ∧
      faceItemTable.map (fun r => (r.1, r.2.1)) = FaceItem.all.mapIdx (fun n k => (k, 0x40 + n)) ∧
      (∀ r ∈ stationItemTable, r.1.range = r.2.2) ∧ ∀ r ∈ faceItemTable, r.1.range = r.2.2 := by decide

theorem test_met_set_plan :
    (∃ s : State, s.HostReady ∧ (s.seq .north).active = false ∧ (s.seq .north).returnsOwed = [] ∧
      (s.seq .north).startsOwed = [] ∧ (s.seq .north).walkOwed = false ∧ (s.face .north).window ≠ none ∧
      ([4, 8] : List StationId).Nodup ∧ (∀ i ∈ ([4, 8] : List StationId), inWindow (s.face .north).window i = true) ∧
      1 ≤ (4 : Byte).toNat ∧ (4 : Byte).toNat ≤ 4 ∧ 10 ≤ (600 : Half).toNat ∧ (600 : Half).toNat ≤ 600) ∧
    (∃ s : State, s.HostReady ∧ (s.seq .north).active = true) ∧
    (∃ s : State, s.HostReady ∧ (s.seq .north).active = false ∧ (s.face .north).window ≠ none ∧
      (4 < (5 : Byte).toNat) ∧ (9 : Half).toNat < 10 ∧
      (∃ b ∈ [(9 : Byte)], ∀ i : StationId, i.val = b.toNat → inWindow (s.face .north).window i = false) ∧
      ¬([4, 4] : List Byte).Nodup) :=
  ⟨⟨at5 (line .tended), by decide⟩, ⟨withSeq (at5 (line .tended)) (planOf .easing 1), by decide⟩,
    ⟨at5 (line .tended), by decide +kernel⟩⟩

theorem test_met_depart :
    (∃ s : State, s.HostReady ∧ (s.face .north).grant = .moored ∧ (s.seq .north).entries ≠ [] ∧
      (s.seq .north).active = false ∧ (s.seq .north).returnsOwed = [] ∧ (s.seq .north).startsOwed = [] ∧
      (s.seq .north).walkOwed = false ∧ 1 ≤ (s.seq .north).width ∧
      ∃ e ∈ (s.seq .north).entries, (s.st e.station).state ≠ .stowed ∧ (s.st e.station).state ≠ .rewind) ∧
    (∀ state ∈ [LineState.stowed, .rewind],
      let s := withSeq (at5 (line state)) { planOf .done 1 with state := .done } .moored
      s.HostReady ∧ (s.seq .north).entries ≠ [] ∧ (s.seq .north).active = false ∧
        (∀ e ∈ (s.seq .north).entries, (s.st e.station).state = .stowed ∨ (s.st e.station).state = .rewind) ∧
        ((s.seq .north).entries.map PlanEntry.station).Nodup) ∧
    ∃ s : State, s.HostReady ∧ ((s.face .north).grant ≠ .moored ∨ (s.seq .north).entries = []) :=
  ⟨⟨withSeq (at5 (line .tended)) { planOf .waiting 0 with state := .idle } .moored, by decide⟩, by decide +kernel,
    ⟨at5 (line .tended), by decide⟩⟩

theorem test_met_plan_control :
    (∃ s : State, s.HostReady ∧ (s.seq .north).state = .running ∧ (s.seq .north).walkOwed = false ∧
      (s.seq .north).startsOwed = [] ∧ (s.seq .north).returnsOwed = []) ∧
    (∃ s : State, s.HostReady ∧ (s.seq .north).active = false) ∧
    (∃ s : State, s.HostReady ∧ (s.seq .north).state = .paused .host ∧ (s.seq .north).complete = false ∧
      (s.seq .north).active = true ∧ (s.seq .north).walkOwed = false ∧ (s.seq .north).startsOwed = [] ∧
      (s.seq .north).returnsOwed = []) ∧
    ∃ s : State, s.HostReady ∧ (s.seq .north).state = .paused .failed ∧ (s.seq .north).complete = true :=
  ⟨⟨withSeq (at5 (line .easing)) (planOf .easing 1), by decide⟩, ⟨at5 (line .tended), by decide⟩,
    ⟨withSeq (at5 (line .easing)) { planOf .returned 1 with state := .paused .host }, by decide⟩,
    ⟨withSeq (at5 (line .fault)) { planOf .failed 1 with state := .paused .failed }, by decide⟩⟩

/-- The walk's hypotheses, for a record of each row of Table 6-4; the entry is the plan's last. -/
theorem test_met_walk :
    ∀ c ∈ [line .halted, line .fault, line .stowed, line .rewind, line .slack, { line .payout with fittingTag := none },
      { line .tended with holds := [⟨.ship, 1⟩] }, line .locked, line .payout, line .heave, line .locking, line .easing],
    let s := withSeq (at5 c) { planOf .waiting 0 with walkOwed := true }
    s.st 5 = c ∧ s.inReset = false ∧ (s.seq .north).walkOwed = true ∧ (s.seq .north).startsOwed = [] ∧
      (s.seq .north).canLook = true ∧ (s.seq .north).WalkLaw ∧ (s.seq .north).cursorStation = some 5 ∧
      (s.seq .north).cursor + 1 = (s.seq .north).entries.length ∧
      ∀ e ∈ (s.seq .north).entries, e.station ≠ 5 → e.status.finished = true := by decide

/-- No claim owed; one behind a start claim; one owed at the end of the list; a skip that does not end the plan. -/
theorem test_met_walk_waits :
    (∃ s : State, s.inReset = false ∧ (s.seq .north).walkOwed = false) ∧
    (∃ s : State, s.inReset = false ∧ (s.seq .north).walkOwed = true ∧ (s.seq .north).startsOwed ≠ []) ∧
    (∃ s : State, s.inReset = false ∧ (s.seq .north).walkOwed = true ∧ (s.seq .north).startsOwed = [] ∧
      (s.seq .north).cursorStation = none) ∧
    ∃ s : State, (s.st 5).state = .stowed ∧ (s.seq .north).canLook = true ∧ (s.seq .north).WalkLaw ∧
      (s.seq .north).cursorStation = some 5 ∧ (s.seq .north).cursor + 1 ≠ (s.seq .north).entries.length :=
  ⟨⟨at5 (line .tended), by decide⟩,
    ⟨withSeq (at5 (line .tended)) { planOf .returned 1 with startsOwed := [5], walkOwed := true }, by decide⟩,
    ⟨withSeq (at5 (line .easing)) { planOf .easing 1 with walkOwed := true }, by decide⟩,
    ⟨withSeq (at5 (line .stowed)) { planOf .waiting 0 with
      walkOwed := true, entries := [⟨5, .waiting, none, false⟩, ⟨6, .waiting, none, false⟩] }, by decide⟩⟩

theorem test_met_entry_claims :
    (∃ s : State, s.inReset = false ∧ s.faceOf 5 = some .north ∧ (s.seq .north).WalkLaw ∧
      (s.seq .north).find 5 = some ⟨5, .returned, none, false⟩ ∧ (s.seq .north).startsOwed = 5 :: [] ∧
      LineReport.entered .fault ∉ (s.st 5).toSequencer ∧ (s.st 5).state = .tended ∧ (s.st 5).holds = []) ∧
    (∃ s : State, s.inReset = false ∧ s.faceOf 5 = some .north ∧ (s.seq .north).WalkLaw ∧
      (s.seq .north).find 5 = some ⟨5, .returned, none, false⟩ ∧ (s.seq .north).startsOwed = 5 :: [] ∧
      (s.st 5).toSequencer = [] ∧ (s.st 5).state = .locked ∧ (s.st 5).holds ≠ []) ∧
    (∃ s : State, s.inReset = false ∧ s.faceOf 5 = some .north ∧ (s.seq .north).WalkLaw ∧
      (s.seq .north).find 5 = some ⟨5, .easing, none, false⟩ ∧ 5 ∈ (s.seq .north).returnsOwed ∧
      (s.st 5).state = .easing) ∧
    (∃ s : State, s.inReset = false ∧ s.faceOf 5 = some .north ∧ (s.seq .north).WalkLaw ∧
      (s.seq .north).find 5 = some ⟨5, .easing, none, false⟩ ∧ 5 ∈ (s.seq .north).returnsOwed ∧
      (s.st 5).state = .slack) ∧
    ∃ s : State, s.inReset = false ∧ s.faceOf 5 = some .north ∧ (s.seq .north).WalkLaw ∧
      (s.seq .north).find 5 = some ⟨5, .slack, some 120, false⟩ ∧ (s.seq .north).active = true :=
  ⟨⟨withSeq (at5 (line .tended)) { planOf .returned 1 with startsOwed := [5] }, by decide⟩,
    ⟨withSeq (at5 { line .locked with holds := [⟨.ship, 1⟩] }) { planOf .returned 1 with startsOwed := [5] }, by decide⟩,
    ⟨withSeq (at5 (line .easing)) { planOf .easing 1 with state := .idle, returnsOwed := [5] } .moored, by decide⟩,
    ⟨withSeq (at5 (line .slack)) { planOf .easing 1 with state := .idle, returnsOwed := [5] } .moored, by decide⟩,
    ⟨withSeq (at5 (line .slack)) { planOf .slack 1 with entries := [⟨5, .slack, some 120, false⟩] }, by decide⟩⟩

/-- Every finding of a return claim that R136 names; claims not owed. -/
theorem test_met_return_findings :
    (∀ state ∈ [LineState.tended, .locking, .locked, .slack, .rewind, .stowed, .fault],
      let s := withSeq (at5 (line state)) { planOf .easing 1 with state := .idle, returnsOwed := [5] } .moored
      s.inReset = false ∧ s.faceOf 5 = some .north ∧ (s.seq .north).WalkLaw ∧ 5 ∈ (s.seq .north).returnsOwed ∧
        (s.seq .north).find 5 = some ⟨5, .easing, none, false⟩ ∧ (s.st 5).state = state) ∧
    ∃ s : State, s.inReset = false ∧ s.faceOf 5 = some .north ∧ 5 ∉ (s.seq .north).returnsOwed ∧
      (s.seq .north).startsOwed.head? ≠ some 5 :=
  ⟨by decide, ⟨at5 (line .tended), by decide⟩⟩

/-- A report that finishes the last entry, and one that leaves another in progress. -/
theorem test_met_completion_by_a_report :
    (∃ s : State, (s.seq .north).state = .running ∧ (s.seq .north).WalkLaw ∧
      (s.st 5).toSequencer = .entered .rewind :: [] ∧ (s.seq .north).find 5 = some ⟨5, .slack, none, false⟩ ∧
      (s.seq .north).cursor = (s.seq .north).entries.length ∧
      ∀ x ∈ (s.seq .north).entries, x.station ≠ 5 → x.status.finished = true) ∧
    ∃ s : State, (s.seq .north).state = .running ∧ (s.seq .north).WalkLaw ∧
      (s.st 5).toSequencer = .entered .rewind :: [] ∧
      ∃ x ∈ (s.seq .north).entries, x.station ≠ 5 ∧ x.status.finished = false :=
  let heard (q : Sequencer) : State := withSeq (at5 { line .rewind with toSequencer := [.entered .rewind] }) q
  ⟨⟨heard { planOf .slack 2 with entries := [⟨6, .done, none, false⟩, ⟨5, .slack, none, false⟩] }, by decide⟩,
    ⟨heard { planOf .slack 2 with entries := [⟨6, .easing, none, false⟩, ⟨5, .slack, none, false⟩] }, by decide⟩⟩

/-- Reports to the sequencer, for each entry status that Table 6-5 names and a report it acts on. -/
theorem test_met_reports :
    ∀ x ∈ [(EntryStatus.easing, 1, LineReport.entered .slack), (.easing, 1, .entered .tended),
      (.slack, 1, .entered .rewind), (.easing, 1, .entered .fault), (.returned, 1, .entered .locking),
      (.returned, 1, .entered .locked), (.failed, 1, .entered .slack), (.waiting, 0, .entered .tended),
      (.blocked, 0, .holdsEmptied), (.returned, 1, .holdsEmptied), (.done, 1, .holdsEmptied)],
    let s := withSeq (at5 { line .tended with toSequencer := [x.2.2] }) (planOf x.1 x.2.1)
    s.inReset = false ∧ s.faceOf 5 = some .north ∧ (s.seq .north).active = true ∧ (s.seq .north).WalkLaw ∧
      (s.seq .north).find 5 = some ⟨5, x.1, none, false⟩ ∧ (s.st 5).toSequencer = x.2.2 :: [] := by decide

theorem test_met_waiting_behind_the_cursor :
    ∃ s : State, (s.seq .north).active = true ∧ (s.seq .north).WalkLaw ∧
      (s.seq .north).find 5 = some ⟨5, .waiting, none, false⟩ ∧ (s.seq .north).cursorStation ≠ some 5 :=
  ⟨withSeq (at5 (line .tended)) { planOf .waiting 0 with
    entries := [⟨6, .waiting, none, false⟩, ⟨5, .waiting, none, false⟩] }, by decide⟩

/-! ### Emergency, attention and tension -/

theorem test_met_emergency :
    (∃ s : State, s.inReset = false ∧ s.HostReady ∧ (s.face .north).erActive = false) ∧
    (∃ s : State, s.inReset = false ∧ (s.face .north).erActive = true) ∧
    (∃ s : State, s.inReset = false ∧ 0 < (s.face .north).planReports ∧ (s.seq .north).active = true) ∧
    (∃ s : State, s.inReset = false ∧ 0 < (s.face .north).planReports ∧ (s.seq .north).active = false) :=
  let due (s : State) : State := { s with northFace := { s.northFace with planReports := 1, erActive := true } }
  ⟨⟨at5 (line .tended), by decide⟩, ⟨due (at5 (line .tended)), by decide⟩,
    ⟨due (withSeq (at5 (line .easing)) (planOf .easing 1) .cleared), by decide⟩, ⟨due (at5 (line .tended)), by decide⟩⟩

theorem test_met_release_claim :
    ∀ c ∈ [line .rewind, line .locked, clamped (line .tended) .opening .opened (some 30),
      clamped (line .locking) .closing .closed (some 30)],
    let s := at5 { c with releaseClaims := 1 }
    s.inReset = false ∧ 0 < (s.st 5).releaseClaims ∧ (s.st 5).state = c.state ∧
      (s.st 5).drive.field = c.drive.field ∧ (s.st 5).drive.reading ≠ .openOnly := by decide

/-- Codes 8 and 9 bound a station's table, 3 and 4 a face's; link flag sets 15 and 16 bound the four flags. -/
theorem test_met_attention :
    (∃ s : State, s.HostReady) ∧ (∀ b ∈ [(8 : Byte)], b.toNat ≤ 8) ∧ (∃ b ∈ [(9 : Byte)], 8 < b.toNat) ∧
      (∀ b ∈ [(3 : Byte)], b.toNat ≤ 3) ∧ (∃ b ∈ [(4 : Byte)], 3 < b.toNat) ∧ (15 : Byte).toNat < 16 ∧
      16 ≤ (16 : Byte).toNat ∧ (1 : Byte) ≠ 0 ∧
      (∃ s : State, s.urgentMasked = true ∧ s.routineMasked = true ∧ (s.st 5).attn.fault = true) :=
  ⟨⟨at5 (line .tended), by decide⟩, by decide, by decide, by decide, by decide, by decide, by decide, by decide,
    ⟨{ at5 { line .fault with attn := { fault := true } } with urgentMasked := true }, by decide⟩⟩

theorem test_met_ship_line_requests :
    (∃ s : State, s.ShipReady .north 7 ∧ s.Selects .north 1 5 ∧ s.MooringServed .north ∧ (s.st 5).state = .payout ∧
      (s.st 5).fittingTag ≠ none ∧ (s.st 5).monitor.failed = false ∧ (s.st 5).drive.field = .opened ∧
      (s.st 5).drive.homeClosed = false ∧ (s.st 5).drive.payout ≠ some 0 ∧ (s.st 5).band = some ⟨1500, 3000⟩ ∧
      (s.st 5).average.all (fun a => decide (a < 1500)) = true) ∧
    (∃ s : State, s.ShipReady .north 7 ∧ s.Selects .north 1 5 ∧ s.MooringServed .north ∧ (s.st 5).state = .payout ∧
      (s.st 5).fittingTag ≠ none ∧ (s.st 5).monitor.failed = true) ∧
    (∃ s : State, s.ShipReady .north 7 ∧ s.Selects .north 1 5 ∧ (s.st 5).state = .slack ∧
      (s.st 5).drive.field ≠ .opened) ∧
    (∃ s : State, s.ShipReady .north 7 ∧ s.Selects .north 1 5 ∧ (s.st 5).state = .slack ∧
      (s.st 5).drive.field = .opened ∧ (s.st 5).drive.homeClosed = false ∧ (s.st 5).drive.payout ≠ some 0) ∧
    ∃ s : State, s.ShipReady .north 7 ∧ s.Selects .north 1 5 ∧ s.MooringServed .north ∧ (s.st 5).state ≠ .payout ∧
      (s.st 5).state ≠ .slack :=
  ⟨⟨at5 (loaded (line .payout) [1499]), by decide, selects5 _ _, by decide⟩,
    ⟨at5 { line .payout with monitor := { Monitor.reset with failed := true } }, by decide, selects5 _ _, by decide⟩,
    ⟨at5 (clamped (line .slack) .opening .opened (some 30)), by decide, selects5 _ _, by decide⟩,
    ⟨at5 (line .slack), by decide, selects5 _ _, by decide⟩, ⟨at5 (line .tended), by decide, selects5 _ _, by decide⟩⟩

/-- Mean periods at the limits and beside them; the seventh and the eighth invalid sample; the third and the fourth valid
one of a recovery. -/
theorem test_met_sample :
    (([500] : List Nat).getLast? = some 500 ∧ (500 - 0) / [500].length = 500) ∧
    sampleOf {} [0, 500] = some 10000 ∧ sampleOf {} [0, 499] = none ∧ sampleOf {} [0, 10000] = some 0 ∧
    sampleOf {} [0, 10001] = none ∧
    (∃ s : State, s.inReset = false ∧ (s.st 5).monitor.failed = false ∧
      (s.st 5).monitor.invalidRun + 1 < (s.st 5).settings.invalidLimit) ∧
    (∃ s : State, s.inReset = false ∧ (s.st 5).monitor.failed = false ∧
      (s.st 5).settings.invalidLimit ≤ (s.st 5).monitor.invalidRun + 1) ∧
    (∃ s : State, s.inReset = false ∧ (s.st 5).monitor.failed = true ∧ (s.st 5).monitor.kept.length = 3) ∧
    ∃ s : State, s.inReset = false ∧ (s.st 5).monitor.failed = true ∧ (s.st 5).monitor.kept.length < 3 :=
  ⟨by decide, by decide, by decide, by decide, by decide,
    ⟨at5 { line .tended with monitor := { Monitor.reset with invalidRun := 6 } }, by decide⟩,
    ⟨at5 { line .tended with monitor := { Monitor.reset with invalidRun := 7 } }, by decide⟩,
    ⟨at5 { line .slack with monitor := { Monitor.reset with failed := true, kept := [1, 2, 3] } }, by decide⟩,
    ⟨at5 { line .slack with monitor := { Monitor.reset with failed := true, kept := [1, 2] } }, by decide⟩⟩

/-- One held sample in each clause of the comparisons: averages at band low and band high, below and above, absent, and
below counts one short of the dwell and at it. -/
theorem test_met_comparisons :
    ∀ c ∈ [loaded (line .tended) [1500], loaded (line .tended) [3000], loaded (line .locked) [1499],
      loaded (line .locked) [3001], line .tended,
      { loaded (line .tended) [1499] with monitor := { (loaded (line .tended) [1499]).monitor with below := 18 } },
      { loaded (line .tended) [1499] with monitor := { (loaded (line .tended) [1499]).monitor with below := 19 } },
      { loaded (line .tended) [3001] with monitor := { (loaded (line .tended) [3001]).monitor with above := 19 } },
      loaded (line .locking) [7500], loaded (line .slack) [49], line .halted],
    (at5 c).inReset = false ∧ (at5 c).st 5 = c ∧ c.band = some ⟨1500, 3000⟩ ∧
      (c.takeSample []).average = c.average := by decide +kernel

theorem test_met_channel_reports :
    ∀ x ∈ [(MonitorReport.sensorFailed, line .heave), (.sensorFailed, line .slack), (.sensorRecovered, line .slack),
      (.parted, line .tended), (.parted, line .fault), (.lockTrip, clamped (line .locking) .closing .closed (some 30)),
      (.lockTrip, clamped (line .locked) .closed .closed),
      (.lockTrip, { line .locked with settings := { hardLock := 1 } }), (.lockTrip, line .tended)],
    let s := at5 { x.2 with monitor := { Monitor.reset with reports := [x.1] } }
    s.inReset = false ∧ (s.st 5).monitor.reports = x.1 :: [] ∧ (s.st 5).state = x.2.state ∧
      (s.st 5).settings = x.2.settings ∧ (s.st 5).drive = x.2.drive := by decide

/-- The midpoint 225.0 kN bounds a correction that runs and one that ends at once. -/
theorem test_met_corrections :
    (∃ s : State, s.inReset = false ∧ (s.st 5).monitor.reports = [.correction .below] ∧
      (s.st 5).band = some ⟨1500, 3000⟩ ∧ (s.st 5).state = .tended ∧ (s.st 5).drive.field = .opened ∧
      (s.st 5).drive.mode = .running) ∧
    (∃ s : State, s.inReset = false ∧ (s.st 5).monitor.reports = [.correction .below] ∧ (s.st 5).state = .tended ∧
      (s.st 5).drive.mode ≠ .running ∧ (s.st 5).drive.nxt = none ∧
      (s.st 5).met (.tensionGe (Band.midpoint ⟨1500, 3000⟩)) = false ∧ (s.st 5).drive.homeClosed = false) ∧
    (∃ s : State, s.inReset = false ∧ (s.st 5).monitor.reports = [.correction .below] ∧ (s.st 5).state = .tended ∧
      (s.st 5).drive.mode ≠ .running ∧ (s.st 5).met (.tensionGe (Band.midpoint ⟨1500, 3000⟩)) = true) ∧
    (∃ s : State, s.inReset = false ∧ (s.st 5).monitor.reports = [.correction .above] ∧ (s.st 5).state = .locking) ∧
    (∃ s : State, s.inReset = false ∧ (s.st 5).monitor.belowDue = true ∧ (s.st 5).monitor.aboveDue = true) ∧
    (∃ s : State, s.inReset = false ∧ (s.st 5).monitor.clearDue = true ∧ (s.st 5).state = .slack ∧
      (s.st 5).drive.field ≠ .opened) ∧
    (∃ s : State, s.inReset = false ∧ (s.st 5).monitor.clearDue = true ∧ (s.st 5).state = .slack ∧
      (s.st 5).drive.field = .opened ∧ (s.st 5).drive.homeClosed = false ∧ (s.st 5).drive.payout ≠ some 0) ∧
    ∃ s : State, s.inReset = false ∧ (s.st 5).monitor.clearDue = false ∧ (s.st 5).monitor.belowDue = false ∧
      (s.st 5).monitor.aboveDue = false :=
  let asks (c : Station) (side : BandSide) : Station :=
    { c with monitor := { c.monitor with reports := [.correction side] } }
  let due (c : Station) : Station :=
    { c with monitor := { c.monitor with belowDue := true, aboveDue := true, clearDue := true } }
  ⟨⟨at5 (asks (running (line .tended) rendering) .below), by decide⟩,
    ⟨at5 (asks (loaded (line .tended) [2249]) .below), by decide⟩,
    ⟨at5 (asks (loaded (line .tended) [2250]) .below), by decide⟩,
    ⟨at5 (asks (line .locking) .above), by decide⟩, ⟨at5 (due (line .tended)), by decide⟩,
    ⟨at5 (due (clamped (line .slack) .opening .opened (some 30))), by decide⟩, ⟨at5 (due (line .slack)), by decide⟩,
    ⟨at5 (line .tended), by decide⟩⟩

/-! ### Drive, payout and clamp -/

theorem test_met_counts :
    (∃ s : State, s.inReset = false ∧ (s.st 5).drive.payout = some 0 ∧ (s.st 5).drive.cur = none) ∧
    (∃ s : State, s.inReset = false ∧ (s.st 5).drive.payout = some 25000 ∧ (s.st 5).drive.cur = none) ∧
    (∀ c ∈ [line .heave, line .rewind, { line .rewind with settings := { homeMargin := 0 } }],
      let s := at5 { c with drive := { c.drive with payout := some 1 } }
      s.inReset = false ∧ (s.st 5).drive.payout = some 1 ∧ (s.st 5).drive.homeClosed = false ∧
        (s.st 5).state = c.state ∧ (s.st 5).settings = c.settings ∧ (s.st 5).drive.field = .opened) ∧
    (∃ s : State, s.inReset = false ∧ (s.st 5).state = .payout ∧
      (s.st 5).drive.cur = some ⟨.render, 30, none, .payoutGe 2, true⟩ ∧ (s.st 5).drive.nxt = none ∧
      (s.st 5).drive.payout = some 1) ∧
    (∃ s : State, s.inReset = false ∧ (s.st 5).state = .rewind ∧ (s.st 5).creepSpent = some 50 ∧
      50 ≤ (s.st 5).drive.overrun) ∧
    ∃ s : State, s.inReset = false ∧ (s.st 5).state = .rewind ∧ (s.st 5).creepSpent = some 50 ∧
      (s.st 5).drive.overrun < 50 :=
  let paid (c : Station) (p : Nat) : Station := { c with drive := { c.drive with payout := some p } }
  let crept (n : Nat) : Station := { line .rewind with creepSpent := some 50, drive := { Drive.reset with overrun := n } }
  ⟨⟨at5 (paid (line .slack) 0), by decide⟩, ⟨at5 (paid (line .slack) 25000), by decide⟩,
    by decide,
    ⟨at5 (paid (running (line .payout) ⟨.render, 30, none, .payoutGe 2, true⟩) 1), by decide⟩,
    ⟨at5 (crept 50), by decide⟩, ⟨at5 (crept 49), by decide⟩⟩

/-- The last quarter of a cycle each way, the quarters before it, levels unchanged and a change of both inputs. -/
theorem test_met_levels :
    ∀ x ∈ [((3 : Int), EncoderLevels.mk true false), (-3, ⟨false, true⟩), (2, ⟨true, false⟩), (-2, ⟨false, true⟩),
      (0, ⟨false, false⟩), (3, ⟨true, true⟩)],
    let s := at5 { line .tended with drive := { Drive.reset with encoder := ⟨false, false⟩, quarters := x.1 } }
    s.inReset = false ∧ (s.st 5).drive.quarters = x.1 ∧ -3 ≤ x.1 ∧ x.1 ≤ 3 ∧
      (x.2 = ⟨!(s.st 5).drive.encoder.b, (s.st 5).drive.encoder.a⟩ ∨
        x.2 = ⟨(s.st 5).drive.encoder.b, !(s.st 5).drive.encoder.a⟩ ∨ x.2 = (s.st 5).drive.encoder ∨
        x.2 = ⟨!(s.st 5).drive.encoder.a, !(s.st 5).drive.encoder.b⟩) := by decide

theorem test_met_home :
    ∀ c ∈ [running (line .heave) heaving, running (line .rewind) ⟨.heave, 50, none, .homeClosed, true⟩,
      running (line .tended) ⟨.heave, 40, some 10, .tensionGe 2250, false⟩, running (line .easing) rendering,
      line .slack],
    (at5 c).inReset = false ∧ (at5 c).st 5 = c ∧ c.drive.homeClosed = false := by decide

theorem test_met_home_again : ∃ s : State, s.inReset = false ∧ (s.st 5).drive.homeClosed = true :=
  ⟨at5 { line .stowed with drive := { Drive.reset with homeClosed := true } }, by decide⟩

/-- The condition tension ≥ 150.0 kN, just met and just not met. -/
theorem test_met_segment_ends :
    (∃ s : State, s.inReset = false ∧ (s.st 5).drive.cur = some heaving ∧ (s.st 5).met heaving.endCondition = false) ∧
    (∃ s : State, s.inReset = false ∧ (s.st 5).drive.cur = some heaving ∧ heaving.endCondition.onTension = true ∧
      (s.st 5).met heaving.endCondition = true ∧ (s.st 5).state = .heave ∧ heaving.supervised = true ∧
      (s.st 5).drive.nxt = some ⟨.heave, 50, none, .tensionGe 2250, false⟩ ∧ (s.st 5).met (.tensionGe 2250) = false ∧
      (s.st 5).drive.homeClosed = false) ∧
    (∃ s : State, s.inReset = false ∧ (s.st 5).drive.cur = some ⟨.heave, 50, none, .tensionGe 2250, false⟩ ∧
      (s.st 5).met (.tensionGe 2250) = true ∧ (s.st 5).state = .heave ∧ (s.st 5).drive.nxt = none) ∧
    (∃ s : State, s.inReset = false ∧ (s.st 5).drive.cur = some rendering ∧ (s.st 5).met (.tensionLe 299) = true ∧
      (s.st 5).state = .easing ∧ (s.st 5).drive.nxt = none) ∧
    (∃ s : State, s.inReset = false ∧ (s.st 5).drive.cur = some rendering ∧ (s.st 5).met (.tensionLe 299) = true ∧
      (s.st 5).state = .tended ∧ (s.st 5).drive.nxt = none ∧ (s.st 5).drive.durTimer.isSome = true ∧
      (s.st 5).drive.stallTimer.isSome = true) ∧
    (∃ s : State, s.inReset = false ∧ (s.st 5).drive.cur = some rendering ∧ (s.st 5).drive.nxt = some heaving ∧
      (s.st 5).drive.durTimer.isSome = true ∧ (s.st 5).met heaving.endCondition = false ∧
      (s.st 5).drive.homeClosed = false) ∧
    ∃ s : State, s.inReset = false ∧ (s.st 5).drive.cur = some heaving ∧ (s.st 5).drive.stallTimer.isSome = true ∧
      (s.st 5).state = .payout :=
  let timed (c : Station) : Station := { c with drive := { c.drive with durTimer := some 10, stallTimer := some 20 } }
  ⟨⟨at5 (loaded (running (line .heave) heaving) [1499]), by decide⟩,
    ⟨at5 (loaded (running (line .heave) heaving (some ⟨.heave, 50, none, .tensionGe 2250, false⟩)) [1500]), by decide⟩,
    ⟨at5 (loaded (running (line .heave) ⟨.heave, 50, none, .tensionGe 2250, false⟩) [2250]), by decide⟩,
    ⟨at5 (loaded (running (line .easing) rendering) [299]), by decide⟩,
    ⟨at5 (timed (loaded (running (line .tended) rendering) [299])), by decide⟩,
    ⟨at5 (timed (running (line .tended) rendering (some heaving))), by decide⟩,
    ⟨at5 (timed (running (line .payout) heaving)), by decide⟩⟩

theorem test_met_clamp_travel :
    (∀ x ∈ [(ClampPosition.closed, line .locking), (.opened, { line .easing with easingPhase := some .opening }),
      (.opened, { line .slack with clearRemembered := some true }), (.opened, line .tended), (.opened, line .fault),
      (.closed, line .stowed)],
      let s := at5 (clamped x.2 x.1.travel x.1 (some 30))
      s.inReset = false ∧ (s.st 5).drive.command = some x.1 ∧ (s.st 5).drive.field = x.1.travel ∧
        (s.st 5).drive.deadline.isSome = true ∧ (s.st 5).state = x.2.state ∧
        (s.st 5).easingPhase = x.2.easingPhase ∧ (s.st 5).clearRemembered = x.2.clearRemembered) ∧
    ∃ s : State, s.inReset = false ∧ (s.st 5).drive.field.travelling = false ∧ (s.st 5).drive.deadline = none :=
  ⟨by decide, ⟨at5 (line .tended), by decide⟩⟩

theorem test_met_clamp_at_rest :
    (∀ c ∈ [line .payout, { line .easing with easingPhase := some .rendering }, line .locked, line .halted,
      clamped (line .locked) .closed .closed],
      (at5 c).inReset = false ∧ (at5 c).st 5 = c ∧ c.drive.field.travelling = false) ∧
    (∃ s : State, s.inReset = false ∧ (s.st 5).drive.command = some .opened ∧
      (s.st 5).drive.field = ClampPosition.travel .opened ∧ SwitchReading.both ≠ ClampPosition.reading .opened) ∧
    (∃ s : State, s.inReset = false ∧ (s.st 5).easeTimer.isSome = true) ∧
    ∃ s : State, s.inReset = false ∧ (s.st 5).easeTimer = none :=
  ⟨by decide, ⟨at5 (clamped (line .slack) .opening .opened (some 30)), by decide⟩,
    ⟨at5 { line .easing with easeTimer := some 60 }, by decide⟩, ⟨at5 (line .tended), by decide⟩⟩

/-! ### Ship links -/

/-- Start marks of 48 and 80 ticks bound the class, 47 and 81 lie outside; the settings in force now and one change ago; a mark
that was there when the receiver came to IDLE. -/
theorem test_met_start_mark :
    (∃ s : State, s.inReset = false ∧ (s.face .south).link.rx = .idle ∧ (s.face .south).link.ignoring = false ∧
      ∀ u, u = (s.face .south).settings → u.receivePolarity = 0 ∧ 125 * u.linkUnit = 62500 ∧
        3000000 / 62500 = u.startMin ∧ 5062499 / 62500 = u.startMax ∧ 2999999 / 62500 < u.startMin ∧
        u.startMax < 5062500 / 62500) ∧
    (∃ s : State, (s.face .south).link.rx = .idle ∧ (s.face .south).link.ignoring = true ∧
      (s.face .south).link.earlier[0]? = some ({} : FaceSettings) ∧ (s.face .south).link.earlier.length < 2) ∧
    ∃ s : State, s.inReset = false ∧ (s.face .north).link.rx ≠ .idle :=
  ⟨⟨at5 (line .tended), by decide, by decide, by decide, by rintro u rfl; decide⟩,
    ⟨{ State.reset with southFace := { FaceState.reset with
      link := { Link.reset with ignoring := true, earlier := [{}] } } }, by decide⟩,
    ⟨at5 (line .tended), by decide⟩⟩

/-- A space of 23 ticks and a bit mark of 13; a length byte of 7 and a silence of 49 ticks; frames at each step of R187. -/
theorem test_met_receiver :
    (∃ s : State, s.inReset = false ∧ (s.face .north).link.rx.holdsFrame = true ∧
      (s.face .north).link.received [⟨true, 1499999⟩] = .frameError false ∧
      (s.face .north).link.received [⟨true, 2000000⟩, ⟨false, 812500⟩] = .frameError true ∧
      (s.face .north).link.received [⟨true, 2000000⟩] = .going (.bits [] [] false)) ∧
    (∃ s : State, (s.face .north).link.rx.holdsFrame = true ∧
      (s.face .north).link.rxSettings.measured
          (((lineElements [0, 7, 0x10, 0, 7]).dropLast ++ [Element.mark 8, .space 49]).map ({} : FaceSettings).shown) =
        (lineElements [0, 7, 0x10, 0, 7]).dropLast ++ [.mark 8, .space 49]) ∧
    6 < (7 : Byte).toNat ∧ byteSum ([0, 7, 0x10, 0, 0] ++ [] ++ [1]) ≠ 0 ∧
    byteSum ([0, 7, 0x14, 0, 0] ++ [] ++ [0xE5]) = 0 ∧ (∀ r ∈ shipTable, r.1 ≠ (0x14 : Byte).toNat) ∧
    byteSum ([0, 7, 0x12, 0, 0] ++ [] ++ [0xE7]) = 0 ∧ (0x12, 1) ∈ shipTable ∧ (0x10, 0) ∈ shipTable :=
  ⟨⟨at5 (line .tended), by decide +kernel⟩, ⟨at5 (line .tended), by decide +kernel⟩, by decide, by decide, by decide,
    by decide, by decide, by decide, by decide⟩

theorem test_met_transmitter :
    (∀ l ∈ [Link.reset, { Link.reset with current := some ⟨7, ⟨.ok, []⟩⟩ },
      { Link.reset with current := some ⟨7, ⟨.ok, []⟩⟩, rx := .blanked },
      { Link.reset with current := some ⟨7, ⟨.ok, []⟩⟩, sending := true, rx := .blanked },
      { Link.reset with
        current := some ⟨7, ⟨.ok, []⟩⟩, waiting := some ⟨7, ⟨.notFound, []⟩⟩, sending := true, rx := .blanked },
      { Link.reset with rx := .blanked }],
      ∃ s : State, s.inReset = false ∧ (s.face .north).link = l) ∧
    frameElements (TxFrame.mk 7 ⟨.ok, []⟩).bytes = [] ++ .mark 64 :: lineElements (TxFrame.mk 7 ⟨.ok, []⟩).bytes ∧
    (lineElements (TxFrame.mk 7 ⟨.ok, []⟩).bytes).head? = some (.space 32) :=
  ⟨fun l _ => ⟨{ State.reset with northFace := { FaceState.reset with link := l } }, rfl, rfl⟩, rfl, rfl⟩

/-! ### Invariants: a state out of rest that meets each set of laws, with a command that moves it -/

/-- A TENDED line at a moored face, and a host request at the front of the queue. -/
def moored : State := { at5 (line .tended) with pending := [.lock 5] }

theorem test_met_record_laws :
    (moored.Every Station.HoldLaw ∧ moored.Every Station.FieldLaw ∧ moored.Every Station.SampleLaw ∧
      moored.Every Station.LevelLaw ∧ moored.Every Station.PayoutLaw) ∧ ∃ t, step moored = .next t := by
  refine ⟨?_, _, rfl⟩
  unfold State.Every Station.HoldLaw Station.FieldLaw Station.SampleLaw Station.LevelLaw Station.PayoutLaw
  decide +kernel

theorem test_met_drive_laws :
    (moored.ResetLaw ∧ moored.Every Station.DriveLaw ∧ moored.Every Station.ClampLaw) ∧
      ∃ t, step moored = .next t := by
  refine ⟨⟨fun h => by simp [moored, at5, State.reset] at h, ?_⟩, _, rfl⟩
  unfold State.Every Station.DriveLaw Station.ClampLaw
  decide +kernel

theorem test_met_window_laws :
    (moored.Every Station.FieldLaw ∧ moored.Every Station.TagLaw ∧ moored.WindowLaw ∧ moored.UniqueTags ∧ moored.GrantLaw ∧ moored.VacantLaw) ∧
      ∃ t, step moored = .next t := by
  refine ⟨⟨?_, ?_, ⟨?_, ?_⟩, ?_, ⟨?_, ?_, ?_⟩, ?_⟩, _, rfl⟩
  · unfold State.Every Station.FieldLaw
    decide +kernel
  · unfold State.Every Station.TagLaw
    decide +kernel
  · intro f w h
    cases f <;> cases h
    decide
  · decide +kernel
  · intro f i j hi hj hne t ht hu
    have key : ∀ k : StationId, (moored.st k).fittingTag ≠ none → k = 5 := by decide +kernel
    exact hne ((key i (by simp [ht])).trans (key j (by simp [hu])).symm)
  · intro f; cases f <;> decide
  · intro f h; cases f <;> first | rfl | cases h
  · decide
  · intro f; cases f <;> decide +kernel

theorem test_met_plan_laws :
    (∀ f, (moored.seq f).WalkLaw ∧ (moored.seq f).WidthLaw ∧ (moored.seq f).TimerLaw ∧
      (moored.face f).DepartureLaw) ∧ ∃ t, step moored = .next t := by
  refine ⟨fun f => ?_, _, rfl⟩
  unfold Sequencer.WidthLaw Sequencer.TimerLaw FaceState.DepartureLaw
  cases f <;> decide +kernel

theorem test_met_port_laws :
    (moored.ResetLaw ∧ moored.LinkErrorLaw ∧ (∀ f, (moored.face f).link.SlotLaw) ∧ moored.PortLaw) ∧
      ∃ t, step moored = .next t := by
  refine ⟨⟨fun h => by simp [moored, at5, State.reset] at h, fun f => by cases f <;> rfl, fun f => ?_, ?_⟩, _, rfl⟩
  · unfold Link.SlotLaw; cases f <;> decide
  · unfold State.PortLaw; decide

/-! ### One step each, on figures of the spec -/

/-- The next state meets a test. -/
def after (c : Instr) (s : State) (p : State → Bool) : Bool :=
  match step { s with pending := [c] } with
  | .next t => p t
  | .fault _ | .refused _ => false

theorem test_lock_orders_the_clamp :
    after (.lock 5) (at5 (line .tended)) (fun t => decide ((t.st 5).state = .locking ∧
      (t.st 5).drive.field = .closing ∧ (t.st 5).drive.deadline = some 30 ∧
      t.shore.answer = some ⟨.accepted, [4]⟩)) = true := by decide +kernel

theorem test_ship_push_latches_ship_change :
    after (.pushHold (.ship .north 7 0x83) 2) (at5 (line .tended)) (fun t => decide ((t.st 5).holds = [⟨.ship, 2⟩] ∧
      (t.st 5).attn.shipChange = true ∧ (t.face .north).link.current = some ⟨7, ⟨.ok, [1]⟩⟩)) = true := by
  decide +kernel

/-- A surge like the one of section 3.8: a sample that brings the average to 624.5 kN makes LOCK_ALARM pending. -/
theorem test_surge_sample :
    after (.tmSample 5 [0, 982]) (at5 (loaded (line .locked) [4200, 4200, 5600, 7000])) (fun t => decide (
      (t.st 5).monitor.samples = [4200, 5600, 7000, 8183] ∧ (t.st 5).average = some 6245 ∧
      (t.st 5).attn.lockAlarm = true)) = true := by decide +kernel

theorem test_emergency_clears_the_grant :
    after (.erActivation .north) (at5 (line .tended)) (fun t => decide ((t.face .north).grant = .cleared ∧
      (t.st 5).releaseClaims = 1 ∧ (t.st 9).releaseClaims = 0 ∧ (t.face .north).attn.emergency = true)) = true := by
  decide +kernel

theorem test_walk_starts_a_tended_line :
    after (.walkClaim .north) (withSeq (at5 (line .tended)) { planOf .waiting 0 with walkOwed := true }) (fun t => decide (
      (t.st 5).state = .easing ∧ (t.seq .north).entries = [⟨5, .easing, some 120, false⟩] ∧
      (t.seq .north).cursor = 1)) = true := by decide +kernel

/-- A full cycle each way is a count of 0.01 m; a change of both inputs in it is none. -/
theorem test_cycles_are_counts :
    let s := at5 { line .tended with drive := { Drive.reset with payout := some 7 } }
    after (.encoderCount 5 [⟨true, false⟩, ⟨true, true⟩, ⟨false, true⟩, ⟨false, false⟩]) s
        (fun t => decide ((t.st 5).drive.payout = some 8)) = true ∧
      after (.encoderCount 5 [⟨false, true⟩, ⟨true, true⟩, ⟨true, false⟩, ⟨false, false⟩]) s
        (fun t => decide ((t.st 5).drive.payout = some 6)) = true ∧
      after (.encoderCount 5 [⟨true, false⟩, ⟨false, true⟩, ⟨false, false⟩]) s
        (fun t => decide ((t.st 5).drive.payout = some 7 ∧ (t.st 5).drive.encoder = ⟨false, false⟩)) = true := by
  decide +kernel

/-- The frame of section 12.4's PUSH_HOLD on SDI from the first bit on, and IDENT's answer with no wait byte. -/
theorem test_bits_before_the_end_are_of_the_frame :
    after (.pushHold (.host 5) 3)
        { at5 (line .tended) with shore := ⟨.receiving, true, 5, (frameBits [0x12, 5, 1, 3, 0xE5]).take 5, none, false⟩ }
        (fun t => decide ((t.st 5).holds = [⟨.shore, 3⟩] ∧ t.shore.received = [])) = true ∧
      after .ident (at5 (line .tended)) (fun t => decide (t.sdo 99 0 0 = .driven true ∧ t.sdo 99 0 1 = .driven false ∧
        t.shore.sdoByte 99 0 = 0xA5 ∧ t.shore.sdoByte 99 7 = 0)) = true ∧
      after (.unlock 5) (at5 (line .locked)) (fun t => decide (t.shore.sdoByte 3 2 = 0xEE ∧ t.shore.sdoByte 3 3 = 0xA5 ∧
        t.shore.phaseAt 3 2 = .waiting)) = true := by decide +kernel

/-- IRTX within the start mark of a frame under the default settings, and in its start space: high for 8.3 of 25.0 µs. -/
theorem test_carrier_of_the_start_mark :
    let s := { State.reset with northFace := { FaceState.reset with
      link := { Link.reset with current := some ⟨7, ⟨.ok, []⟩⟩, sending := true, rx := .blanked } } }
    s.irtx .north 0 = true ∧ s.irtx .north 8299 = true ∧ s.irtx .north 8300 = false ∧ s.irtx .north 3999999 = false ∧
      s.irtx .north 3975000 = true ∧ s.irtx .north 4000000 = false ∧ State.reset.irtx .north 0 = false := by decide +kernel

end Sys2Proof.Tests
end

section
/-! PROOF. R112: the window of a VACANT face stays clear of lines at work. A record out of work comes to work by PAYOUT,
CLEAR_FAULT and ADOPT alone, and these three ask for a grant. -/

namespace Sys2Proof.Machine

/-! ### Records out of work: no operation of the line controller by itself brings one to work -/

/-- The record is in a state that the window of a VACANT face may show (R112). -/
def Station.OutOfWork (c : Station) : Prop := c.state.barredWhileVacant = false

theorem Station.OutOfWork.of_state_eq {c d : Station} (h : c.OutOfWork) (e : d.state = c.state) : d.OutOfWork := by
  unfold Station.OutOfWork
  rw [e]
  exact h

theorem Station.OutOfWork.ne {c : Station} (h : c.OutOfWork) {state : LineState}
    (hb : state.barredWhileVacant = true) : c.state ≠ state := by
  rintro rfl
  exact Bool.false_ne_true (h.symm.trans hb)

theorem Station.outOfWork_change (c : Station) {new : LineState} (h : new.barredWhileVacant = false) :
    (c.change new).OutOfWork := h

theorem Station.outOfWork_enterFault (c : Station) (cause : FaultCause) : (c.enterFault cause).OutOfWork := rfl

theorem Station.outOfWork_enterStowed (c : Station) : c.enterStowed.OutOfWork := rfl

theorem Station.OutOfWork.latch {c : Station} (h : c.OutOfWork) (k : StationCondition) : (c.latch k).OutOfWork := h

/-! #### Segment ends (R86, R87, R93, R95) -/

theorem Station.OutOfWork.takeHomeClosed {c : Station} (h : c.OutOfWork) : c.takeHomeClosed.OutOfWork := by
  unfold Station.takeHomeClosed
  split
  · exact c.outOfWork_enterFault _
  · exact c.outOfWork_enterStowed.latch _
  · exact h

/-- The two ends that lead to TENDED and SLACK find HEAVE and EASING. -/
theorem Station.OutOfWork.takeConditionEnd {c : Station} (h : c.OutOfWork) (g : Segment) :
    (c.takeConditionEnd g).OutOfWork := by
  unfold Station.takeConditionEnd
  split
  · exact h.latch _
  · next hs => exact absurd hs (h.ne rfl)
  · next hs => exact absurd hs (h.ne rfl)
  · exact c.outOfWork_enterStowed.latch _
  · exact h

theorem Station.OutOfWork.takeStall {c : Station} (h : c.OutOfWork) : c.takeStall.OutOfWork := by
  unfold Station.takeStall
  split
  · exact c.outOfWork_enterFault _
  · exact c.outOfWork_enterFault _
  · exact c.outOfWork_enterFault _
  · exact h

/-- The channel's part of a claim moves the drive and not the state. -/
theorem Station.OutOfWork.withDrive {c : Station} (h : c.OutOfWork) (d : Drive) : { c with drive := d }.OutOfWork := h

theorem Station.OutOfWork.withCreep {c : Station} (h : c.OutOfWork) (d : Drive) (spent : Option Nat) :
    { c with drive := d, creepSpent := spent }.OutOfWork := h

theorem Station.OutOfWork.endSegment {c : Station} (h : c.OutOfWork) (cause : EndCause) :
    (c.endSegment cause).OutOfWork := by
  unfold Station.endSegment
  split
  · exact h
  · next g _ =>
    cases cause with
    | endCondition => exact (h.withDrive _).takeConditionEnd g
    | duration => exact h.withDrive _
    | stall => exact (h.withDrive _).takeStall
    | homeLimit => exact (h.withDrive _).takeHomeClosed

theorem Station.OutOfWork.runEnds (n : Nat) {c : Station} (h : c.OutOfWork) : (Station.runEnds n c).OutOfWork := by
  induction n generalizing c with
  | zero => exact h
  | succ n ih =>
    unfold Station.runEnds
    split
    · exact h
    · split
      · exact ih (h.endSegment _).takeHomeClosed
      · split
        · exact ih (h.endSegment _)
        · exact h

theorem Station.OutOfWork.settleEnds {c : Station} (h : c.OutOfWork) : c.settleEnds.OutOfWork := h.runEnds 3

theorem Station.OutOfWork.testCurrent {c : Station} (h : c.OutOfWork) (kind : EndCondition → Bool) :
    (c.testCurrent kind).OutOfWork := by
  unfold Station.testCurrent
  split
  · exact h
  · split
    · exact (h.endSegment _).settleEnds
    · exact h

theorem Station.OutOfWork.write {c : Station} (h : c.OutOfWork) (g : Segment) : (c.write g).OutOfWork := by
  unfold Station.write
  dsimp only
  split
  · exact h.withDrive _
  · exact (h.withDrive _).settleEnds

theorem Station.OutOfWork.takeZero {c : Station} (h : c.OutOfWork) : c.takeZero.OutOfWork := by
  unfold Station.takeZero
  split
  · exact c.outOfWork_enterFault _
  · split
    · exact c.outOfWork_enterFault _
    · exact (h.withCreep _ _).write _
  · exact h

theorem Station.OutOfWork.zeroAtEntry {c : Station} (h : c.OutOfWork) : c.zeroAtEntry.OutOfWork := by
  unfold Station.zeroAtEntry
  split
  · exact h.takeZero
  · exact h

/-! #### Clears and clamp reports (R52 to R54, R97, R98, R100) -/

theorem Station.OutOfWork.startRewind {c : Station} (h : c.OutOfWork) : c.startRewind.OutOfWork :=
  (h.write _).zeroAtEntry

theorem Station.outOfWork_enterRewind (c : Station) : c.enterRewind.OutOfWork :=
  (c.outOfWork_change (new := .rewind) rfl).startRewind

theorem Station.OutOfWork.takeClear {c : Station} (h : c.OutOfWork) : c.takeClear.OutOfWork := by
  unfold Station.takeClear
  split
  · exact c.outOfWork_enterRewind
  · exact h

/-- LOCKED is entered from LOCKING alone. -/
theorem Station.OutOfWork.takeConfirm {c : Station} (h : c.OutOfWork) (p : ClampPosition) :
    (c.takeConfirm p).OutOfWork := by
  unfold Station.takeConfirm
  split
  · next hs => exact absurd hs (h.ne rfl)
  · next hs => exact absurd hs (h.ne rfl)
  · split
    · exact c.outOfWork_enterRewind
    · exact h
  · exact h

theorem Station.OutOfWork.confirmIfThere {c : Station} (h : c.OutOfWork) : c.confirmIfThere.OutOfWork := by
  unfold Station.confirmIfThere
  split
  · exact (h.withDrive _).takeConfirm _
  · exact h

theorem Station.OutOfWork.orderClamp {c : Station} (h : c.OutOfWork) (p : ClampPosition) :
    (c.orderClamp p).OutOfWork := (h.withDrive _).confirmIfThere

theorem Station.outOfWork_enterSlackOpening (c : Station) : c.enterSlackOpening.OutOfWork :=
  (c.outOfWork_change (new := .slack) rfl).orderClamp _

theorem Station.outOfWork_enterRewindOpening (c : Station) : c.enterRewindOpening.OutOfWork :=
  ((c.outOfWork_change (new := .rewind) rfl).orderClamp _).startRewind

theorem Station.OutOfWork.takeTimeout {c : Station} (h : c.OutOfWork) : c.takeTimeout.OutOfWork := by
  unfold Station.takeTimeout
  split
  · exact c.outOfWork_enterFault _
  · exact c.outOfWork_enterFault _
  · exact c.outOfWork_enterFault _
  · exact c.outOfWork_enterFault _
  · exact h
  · exact h

theorem Station.OutOfWork.takeLeftOpen {c : Station} (h : c.OutOfWork) : c.takeLeftOpen.OutOfWork := by
  unfold Station.takeLeftOpen
  split
  · exact c.outOfWork_enterFault _
  · exact c.outOfWork_enterFault _
  · exact c.outOfWork_enterFault _
  · exact c.outOfWork_enterFault _
  · exact c.outOfWork_enterFault _
  · split
    · exact c.outOfWork_enterFault _
    · exact h
  · exact h

theorem Station.OutOfWork.readSwitches {c : Station} (h : c.OutOfWork) (r : SwitchReading) :
    (c.readSwitches r).OutOfWork := by
  unfold Station.readSwitches
  dsimp only
  split
  · exact (h.withDrive _).confirmIfThere
  · split
    · exact (h.withDrive _).takeLeftOpen
    · exact h.withDrive _

/-! #### Reports of the Tension Monitor channel (R41, R53, R69, R75, R77) -/

theorem Station.OutOfWork.withMonitor {c : Station} (h : c.OutOfWork) (m : Monitor) :
    { c with monitor := m }.OutOfWork := h

theorem Station.OutOfWork.takeSample {c : Station} (h : c.OutOfWork) (edges : List Nat) :
    (c.takeSample edges).OutOfWork := by
  have e : c.takeSample edges = { c with monitor := _, attn := _ } := c.onlyChannel_takeSample edges
  exact h.of_state_eq (by rw [e])

/-- A lock trip that drops a lock finds LOCKING or LOCKED. -/
theorem Station.OutOfWork.takeLockTrip {c : Station} (h : c.OutOfWork) : c.takeLockTrip.OutOfWork := by
  unfold Station.takeLockTrip
  split
  · next hs => exact absurd hs (h.ne rfl)
  · next hs => exact absurd hs (h.ne rfl)
  · exact h

theorem Station.OutOfWork.takeMonitorReport {c : Station} (h : c.OutOfWork) (r : MonitorReport) :
    (c.takeMonitorReport r).OutOfWork := by
  cases r with
  | sensorFailed =>
    rw [Station.takeMonitorReport, Station.takeSensorFailed]
    split
    · exact c.outOfWork_enterFault _
    · exact h.withMonitor _
  | sensorRecovered => exact h
  | parted =>
    rw [Station.takeMonitorReport]
    split
    · exact c.outOfWork_enterFault _
    · exact h
  | lockTrip => exact h.takeLockTrip
  | correction side =>
    rw [Station.takeMonitorReport, if_neg (h.ne rfl)]
    exact h

theorem Station.OutOfWork.takeReports (p : MonitorReport → Bool) (rs : List MonitorReport) {c : Station}
    (h : c.OutOfWork) : (Station.takeReports p rs c).OutOfWork := by
  induction rs generalizing c with
  | nil => exact h
  | cons r rest ih =>
    have hr := (h.withMonitor { c.monitor with reports := rest }).takeMonitorReport r
    rw [Station.takeReports]
    dsimp only
    split
    · exact hr
    · exact ih hr

theorem Station.OutOfWork.takeReport {c : Station} (h : c.OutOfWork) (p : MonitorReport → Bool) :
    (c.takeReport p).OutOfWork := by
  unfold Station.takeReport
  split
  · exact h.takeReports p _
  · exact h

theorem Station.OutOfWork.takeBandDwell {c : Station} (h : c.OutOfWork) (side : BandSide) :
    (c.takeBandDwell side).OutOfWork := by
  cases side with
  | below =>
    rw [Station.takeBandDwell]
    split
    · exact (h.withMonitor _).latch _
    · exact h
  | above =>
    rw [Station.takeBandDwell]
    split
    · exact (h.withMonitor _).latch _
    · exact h

theorem Station.OutOfWork.takeAutoClear {c : Station} (h : c.OutOfWork) : c.takeAutoClear.OutOfWork := by
  unfold Station.takeAutoClear
  split
  · exact (h.withMonitor _).takeClear
  · exact h

/-! #### Counts, home switch and first levels (R56, R90 to R93, R101) -/

theorem Station.OutOfWork.takeCount {c : Station} (h : c.OutOfWork) (dir : CountDir) : (c.takeCount dir).OutOfWork := by
  have ht := (h.withDrive ((c.drive.restartStall c.settings.stallTime).counted dir)).testCurrent EndCondition.onPayout
  unfold Station.takeCount
  dsimp only
  split
  · exact ht.takeZero
  · exact ht

theorem Station.OutOfWork.takeLevels {c : Station} (h : c.OutOfWork) (v : EncoderLevels) :
    (c.takeLevels v).OutOfWork := by
  unfold Station.takeLevels
  dsimp only
  split
  · exact (h.withDrive _).takeCount _
  · exact h.withDrive _

theorem Station.OutOfWork.foldl_takeLevels (levels : List EncoderLevels) {c : Station} (h : c.OutOfWork) :
    (levels.foldl Station.takeLevels c).OutOfWork := by
  induction levels generalizing c with
  | nil => exact h
  | cons v rest ih => exact ih (h.takeLevels v)

theorem Station.OutOfWork.spendMargin {c : Station} (h : c.OutOfWork) : c.spendMargin.OutOfWork := by
  unfold Station.spendMargin
  split
  · exact c.outOfWork_enterFault _
  · exact h

theorem Station.OutOfWork.endAtHome {c : Station} (h : c.OutOfWork) : c.endAtHome.OutOfWork := by
  unfold Station.endAtHome
  split
  · exact h
  · split
    · exact h.settleEnds
    · exact h.testCurrent _

theorem Station.OutOfWork.homeCloses {c : Station} (h : c.OutOfWork) : c.homeCloses.OutOfWork := by
  unfold Station.homeCloses
  split
  · exact h
  · exact (h.withDrive _).endAtHome.takeHomeClosed

theorem Station.OutOfWork.firstLevels {c : Station} (h : c.OutOfWork) (homeClosed openMade closedMade : Bool)
    (encoder : EncoderLevels) : (c.firstLevels homeClosed openMade closedMade encoder).OutOfWork := by
  unfold Station.firstLevels
  dsimp only
  split
  · exact (h.withDrive _).homeCloses
  · exact h.withDrive _

/-! #### Claims of a sequencer and of an emergency (R29, R45, R49, R144) -/

theorem Station.OutOfWork.withReports {c : Station} (h : c.OutOfWork) (rs : List LineReport) :
    { c with toSequencer := rs }.OutOfWork := h

theorem Station.OutOfWork.withAttn {c : Station} (h : c.OutOfWork) (a : StationAttn) :
    { c with attn := a }.OutOfWork := h

theorem Station.OutOfWork.withClaims {c : Station} (h : c.OutOfWork) (n : Nat) :
    { c with releaseClaims := n }.OutOfWork := h

/-- A start claim starts a TENDED or LOCKED record alone. -/
theorem Station.OutOfWork.not_startable {c : Station} (h : c.OutOfWork) : c.startable = false := by
  simp [Station.startable, h.ne (state := .tended) rfl, h.ne (state := .locked) rfl]

theorem Station.OutOfWork.takeStart {c : Station} (h : c.OutOfWork) : c.takeStart.OutOfWork := by
  rw [Station.takeStart, h.not_startable]
  exact h

theorem Station.OutOfWork.takeWalk {c : Station} (h : c.OutOfWork) : c.takeWalk.OutOfWork := by
  rw [Station.takeWalk, h.not_startable, if_neg Bool.false_ne_true]
  split
  · exact c.outOfWork_enterRewind
  · exact h

theorem Station.OutOfWork.takeReturn {c : Station} (h : c.OutOfWork) : c.takeReturn.OutOfWork := by
  rw [Station.takeReturn, if_neg (h.ne rfl)]
  exact h

theorem Station.outOfWork_takeRelease (c : Station) : c.takeRelease.OutOfWork := by
  cases hs : c.state
  case slack | rewind | stowed => simp only [Station.takeRelease, hs, Station.OutOfWork, LineState.barredWhileVacant]
  all_goals
    simp only [Station.takeRelease, hs]
    exact Station.outOfWork_enterSlackOpening _

/-! #### Requests (R14 to R20, R31, R38, R40, R43, R52, R181) -/

theorem Station.OutOfWork.takeUp {c : Station} (h : c.OutOfWork) : c.takeUp.1.OutOfWork := by
  rw [Station.takeUp, if_pos (.inl (h.ne rfl))]
  exact h

theorem Station.OutOfWork.lock {c : Station} (h : c.OutOfWork) : c.lock.1.OutOfWork := by
  rw [Station.lock, if_neg (h.ne rfl)]
  exact h

theorem Station.OutOfWork.unlock {c : Station} (h : c.OutOfWork) : c.unlock.1.OutOfWork := by
  rw [Station.unlock, if_neg (not_or.mpr ⟨h.ne rfl, h.ne rfl⟩)]
  exact h

theorem Station.OutOfWork.release {c : Station} (h : c.OutOfWork) (inPlan : Bool) :
    (c.release inPlan).1.OutOfWork := by
  rw [Station.release, if_pos (not_or.mpr ⟨h.ne rfl, not_or.mpr ⟨h.ne rfl, h.ne rfl⟩⟩)]
  exact h

theorem Station.OutOfWork.cancel {c : Station} (h : c.OutOfWork) : c.cancel.1.OutOfWork := by
  rw [Station.cancel, if_pos (.inl (h.ne rfl))]
  exact h

theorem Station.OutOfWork.markClear {c : Station} (h : c.OutOfWork) : c.markClear.1.OutOfWork := by
  unfold Station.markClear
  split
  · exact h.takeClear
  · exact h

/-- Only an EASING record returns to TENDED at a push. -/
theorem Station.OutOfWork.acceptHold {c : Station} (h : c.OutOfWork) (hold : Hold) :
    (c.acceptHold hold).1.OutOfWork := by
  rw [Station.acceptHold, if_neg (h.ne rfl)]
  exact h

theorem Station.OutOfWork.pushHold {c : Station} (h : c.OutOfWork) (hold : Hold) : (c.pushHold hold).1.OutOfWork := by
  cases hs : c.state
  case slack | rewind | stowed | halted =>
    simp only [Station.pushHold, hs]
    exact h
  all_goals
    simp only [Station.pushHold, hs]
    split
    · exact h.latch _
    · exact h.acceptHold hold

theorem Station.OutOfWork.popHold {c : Station} (h : c.OutOfWork) (holder : Holder) :
    (c.popHold holder).1.OutOfWork := by
  unfold Station.popHold
  split
  · exact h
  · split
    · exact h
    · exact h

theorem Station.OutOfWork.setBand {c : Station} (h : c.OutOfWork) (b : Band) : (c.setBand b).1.OutOfWork := by
  unfold Station.setBand
  split
  · exact h
  · split
    · exact h
    · exact h

theorem Station.OutOfWork.requestBand {c : Station} (h : c.OutOfWork) (t : FaceSettings) (low high : Nat) :
    (c.requestBand t low high).1.OutOfWork := by
  unfold Station.requestBand
  dsimp only
  split
  · exact h
  · split
    · exact h
    · exact h

theorem Station.OutOfWork.markAttached {c : Station} (h : c.OutOfWork) (holder : Holder) (tag : Byte) (taken : Bool) :
    (c.markAttached holder tag taken).1.OutOfWork := by
  unfold Station.markAttached
  split
  · exact h
  · split
    · exact h
    · split
      · exact h
      · exact h

theorem Station.OutOfWork.putSetting {c : Station} (h : c.OutOfWork) (k : StationItem) (v : Nat) :
    (c.putSetting k v).OutOfWork := by
  unfold Station.putSetting
  split
  · exact h
  · dsimp only
    split
    · exact h
    · exact h

theorem Station.OutOfWork.shipChanged {c : Station} (h : c.OutOfWork) (a : Answer) : (c.shipChanged a).OutOfWork := by
  unfold Station.shipChanged
  split
  · exact h.latch _
  · exact h

/-! #### The three requests that bring a record to work ask for a grant (R26, R153, R154, R162, R163) -/

theorem Station.OutOfWork.payoutFromStowed {c : Station} (h : c.OutOfWork) {x : FaceState} (hx : x.grant = .vacant)
    (target : Nat) : (c.payoutFromStowed (some x) target).1.OutOfWork := by
  have hp : x.grant.paysOut = false := by rw [hx]; rfl
  unfold Station.payoutFromStowed
  split
  · exact h
  · dsimp only
    rw [if_pos hp]
    exact h

theorem Station.OutOfWork.clearFaultTo {c : Station} (h : c.OutOfWork) (target : LineState) :
    (c.clearFaultTo target false).1.OutOfWork := by
  unfold Station.clearFaultTo
  split
  · rw [if_pos (.inl rfl)]
    exact h
  · rw [if_pos (.inl rfl)]
    exact h
  · split
    · exact h
    · exact c.outOfWork_enterSlackOpening
  · split
    · exact h
    · split
      · exact h
      · split
        · exact h
        · exact c.outOfWork_enterRewindOpening
  · exact h

theorem Station.OutOfWork.adoptTo {c : Station} (h : c.OutOfWork) (target : LineState) (a : Adoption) (dup : Bool) :
    (c.adoptTo target a none dup).1.OutOfWork := by
  unfold Station.adoptTo
  split
  · split
    · exact h
    · split
      · exact h
      · exact c.outOfWork_enterStowed.orderClamp _
  · rw [if_pos (.inl rfl)]
    exact h
  · rw [if_pos (.inl rfl)]
    exact h
  · split
    · exact h
    · split
      · exact h
      · exact Station.outOfWork_enterSlackOpening _
  · exact h

end Sys2Proof.Machine
end

section
/-! PROOF. R112 over the part: each update of State keeps the windows apart and the windows of VACANT faces clear. -/

namespace Sys2Proof.Machine

/-! ### The law of the part, by record -/

/-- The station lies in the window of a VACANT face. -/
def State.VacantAt (s : State) (i : StationId) : Prop :=
  ∃ f, (s.face f).grant = .vacant ∧ inWindow (s.face f).window i = true

/-- R105 and R112 together: what every step keeps. -/
def State.WindowsClear (s : State) : Prop := s.WindowLaw ∧ s.VacantLaw

theorem State.vacantLaw_iff (s : State) : s.VacantLaw ↔ ∀ i, s.VacantAt i → (s.st i).OutOfWork :=
  ⟨fun h i ⟨f, hg, hi⟩ => h f i hg hi, fun h f i hg hi => h i ⟨f, hg, hi⟩⟩

theorem State.WindowsClear.outOfWork {s : State} (h : s.WindowsClear) {i : StationId} (hv : s.VacantAt i) :
    (s.st i).OutOfWork := s.vacantLaw_iff.mp h.2 i hv

theorem State.windowLaw_iff (s : State) :
    s.WindowLaw ↔ (∀ f w, (s.face f).window = some w → w.Valid) ∧
      ∀ f i, inWindow (s.face f).window i = true → inWindow (s.face (otherFace f)).window i = false := by
  refine and_congr_right fun _ => ⟨fun h f i hi => ?_, fun h => h .north⟩
  cases f with
  | north => exact h i hi
  | south => exact Bool.eq_false_iff.mpr fun hn => Bool.false_ne_true ((h i hn).symm.trans hi)

theorem State.WindowLaw.of_window_eq {s t : State} (h : s.WindowLaw)
    (hw : ∀ f, (t.face f).window = (s.face f).window) : t.WindowLaw := by
  rw [State.windowLaw_iff] at h ⊢
  simpa only [hw] using h

/-- The face of a record is the one whose window holds it (R2, R105). -/
theorem State.faceOf_of_inWindow {s : State} (h : s.WindowLaw) {f : Face} {i : StationId}
    (hi : inWindow (s.face f).window i = true) : s.faceOf i = some f := by
  have hn : ∀ g, inWindow (s.face g).window i = true → inWindow (s.face (otherFace g)).window i = false :=
    fun g => (s.windowLaw_iff.mp h).2 g i
  cases f with
  | north => exact if_pos hi
  | south => exact (if_neg (Bool.eq_false_iff.mp (hn .south hi))).trans (if_pos hi)

theorem State.faceOf_of_vacantAt {s : State} (h : s.WindowLaw) {i : StationId} (hv : s.VacantAt i) :
    ∃ f, s.faceOf i = some f ∧ (s.face f).grant = .vacant :=
  have ⟨f, hg, hi⟩ := hv
  ⟨f, State.faceOf_of_inWindow h hi, hg⟩

theorem State.grantTag_of_vacantAt {s : State} (h : s.WindowLaw) {i : StationId} (hv : s.VacantAt i) :
    s.grantTag i = none := by
  obtain ⟨f, hf, hg⟩ := State.faceOf_of_vacantAt h hv
  simp only [State.grantTag, hf, hg, if_true]

theorem mem_allStations (i : StationId) : i ∈ allStations := List.mem_ofFn.mpr ⟨i, rfl⟩

theorem mem_windowStations {w : Option Window} {i : StationId} : i ∈ windowStations w ↔ inWindow w i = true := by
  simp [windowStations, mem_allStations]

theorem State.windowAll_iff {s : State} {w : Option Window} {p : Station → Bool} :
    s.windowAll w p = true ↔ ∀ i, inWindow w i = true → p (s.st i) = true := by
  simp only [State.windowAll, List.all_eq_true, mem_windowStations]

/-! ### One rule per update of State -/

/-- The window stays, and no grant falls to VACANT. -/
def FaceState.KeepsBerth (x y : FaceState) : Prop := y.window = x.window ∧ (y.grant = .vacant → x.grant = .vacant)

theorem FaceState.KeepsBerth.refl (x : FaceState) : x.KeepsBerth x := ⟨rfl, id⟩

theorem FaceState.keepsBerth_putSetting (x : FaceState) (k : FaceItem) (v : Nat) : x.KeepsBerth (x.putSetting k v) := by
  unfold FaceState.putSetting
  split
  · exact .refl x
  · exact ⟨rfl, id⟩

theorem State.WindowsClear.of_keeps {s t : State} (h : s.WindowsClear) (hf : ∀ f, (s.face f).KeepsBerth (t.face f))
    (hs : ∀ i, s.VacantAt i → (s.st i).OutOfWork → (t.st i).OutOfWork) : t.WindowsClear := by
  refine ⟨h.1.of_window_eq fun f => (hf f).1, t.vacantLaw_iff.mpr ?_⟩
  rintro i ⟨f, hg, hi⟩
  have hv : s.VacantAt i := ⟨f, (hf f).2 hg, (hf f).1 ▸ hi⟩
  exact hs i hv (h.outOfWork hv)

theorem State.WindowsClear.of_face_eq {s t : State} (h : s.WindowsClear) (hf : ∀ f, t.face f = s.face f)
    (hs : ∀ i, s.VacantAt i → (s.st i).OutOfWork → (t.st i).OutOfWork) : t.WindowsClear :=
  h.of_keeps (fun f => (hf f).symm ▸ .refl _) hs

theorem State.WindowsClear.ite {p : Prop} [Decidable p] {s t : State} (hs : s.WindowsClear) (ht : t.WindowsClear) :
    (if p then s else t).WindowsClear := by
  split
  · exact hs
  · exact ht

theorem State.WindowsClear.onFace {s : State} (h : s.WindowsClear) (f : Face) {g : FaceState → FaceState}
    (hg : (s.face f).KeepsBerth (g (s.face f))) : (s.onFace f g).WindowsClear := by
  refine h.of_keeps (fun f' => ?_) fun i _ hi => by rwa [State.st_onFace]
  by_cases e : f' = f
  · subst e
    rwa [State.face_onFace_same]
  · rw [State.face_onFace_ne s g e]
    exact .refl _

/-- A change of a face that names neither window nor grant. -/
theorem State.WindowsClear.onFace_same {s : State} (h : s.WindowsClear) (f : Face) {g : FaceState → FaceState}
    (hw : (g (s.face f)).window = (s.face f).window) (hg : (g (s.face f)).grant = (s.face f).grant) :
    (s.onFace f g).WindowsClear := h.onFace f ⟨hw, fun e => hg.symm.trans e⟩

theorem State.WindowsClear.onSeq {s : State} (h : s.WindowsClear) (f : Face) (g : Sequencer → Sequencer) :
    (s.onSeq f g).WindowsClear := h.onFace_same f rfl rfl

theorem State.WindowsClear.latchFace {s : State} (h : s.WindowsClear) (f : Face) (k : FaceCondition) :
    (s.latchFace f k).WindowsClear := h.onFace_same f rfl rfl

theorem State.WindowsClear.raiseFlag {s : State} (h : s.WindowsClear) (f : Face) (k : LinkFlag) :
    (s.raiseFlag f k).WindowsClear := h.onFace_same f rfl rfl

theorem State.WindowsClear.leaveFrame {s : State} (h : s.WindowsClear) (f : Face) (running : Bool) :
    (s.leaveFrame f running).WindowsClear := h.onFace_same f rfl rfl

theorem State.WindowsClear.shipAnswer {s : State} (h : s.WindowsClear) (f : Face) (tag : Half) (a : Answer) :
    (s.shipAnswer f tag a).WindowsClear := h.onFace_same f rfl rfl

theorem State.WindowsClear.setSt {s : State} (h : s.WindowsClear) (i : StationId) {c : Station}
    (hc : s.VacantAt i → (s.st i).OutOfWork → c.OutOfWork) : (s.setSt i c).WindowsClear := by
  refine h.of_face_eq (s.face_setSt i c) fun j hv hj => ?_
  by_cases e : j = i
  · subst e
    rw [State.st_setSt_same]
    exact hc hv hj
  · rwa [State.st_setSt_ne s c e]

theorem State.WindowsClear.onLine {s : State} (h : s.WindowsClear) (i : StationId) {g : Station → Station}
    (hg : s.VacantAt i → (s.st i).OutOfWork → (g (s.st i)).OutOfWork) : (s.onLine i g).WindowsClear := by
  refine h.setSt i fun hv hi => ?_
  split
  · exact hg hv hi
  · exact (hg hv hi).of_state_eq rfl

theorem State.WindowsClear.mapStations {s : State} (h : s.WindowsClear) (p : StationId → Bool)
    {g : Station → Station} (hg : ∀ c, c.OutOfWork → (g c).OutOfWork) : (s.mapStations p g).WindowsClear := by
  refine h.of_face_eq (s.face_mapStations p g) fun i _ hi => ?_
  rw [State.st_mapStations]
  split
  · exact hg _ hi
  · exact hi

/-- The port is no part of the law. -/
theorem State.WindowsClear.withShore {s : State} (h : s.WindowsClear) (p : ShorePort) :
    { s with shore := p }.WindowsClear :=
  h.of_face_eq (fun f => by cases f <;> rfl) fun _ _ hi => hi

theorem State.WindowsClear.withPending {s : State} (h : s.WindowsClear) (cs : List Instr) :
    { s with pending := cs }.WindowsClear :=
  h.of_face_eq (fun f => by cases f <;> rfl) fun _ _ hi => hi

theorem State.WindowsClear.withMask {s : State} (h : s.WindowsClear) (urgent routine : Bool) :
    { s with urgentMasked := urgent, routineMasked := routine }.WindowsClear :=
  h.of_face_eq (fun f => by cases f <;> rfl) fun _ _ hi => hi

theorem State.WindowsClear.dropReports {s : State} (h : s.WindowsClear) (f : Face) :
    (s.dropReports f).WindowsClear := h.mapStations _ fun _ hc => hc.withClaims 0

/-! ### The Departure Sequencers (chapter 6) -/

/-- Completion clears a DEPARTING grant and makes none VACANT (R111). -/
theorem FaceState.keepsBerth_completed (x : FaceState) (q : Sequencer) :
    x.KeepsBerth { x with sequencer := q, grant := if x.grant = .departing then .cleared else x.grant } := by
  refine ⟨rfl, fun e => ?_⟩
  dsimp only at e
  split at e
  · cases e
  · exact e

theorem State.WindowsClear.testComplete {s : State} (h : s.WindowsClear) (f : Face) :
    (s.testComplete f).WindowsClear := by
  unfold State.testComplete
  dsimp only
  split
  · exact ((h.onFace f (FaceState.keepsBerth_completed _ _)).latchFace f _).dropReports f
  · exact h

theorem State.WindowsClear.failPause {s : State} (h : s.WindowsClear) (f : Face) : (s.failPause f).WindowsClear := by
  unfold State.failPause
  split
  · exact (h.onSeq f _).latchFace f _
  · exact (h.onSeq f _).latchFace f _
  · exact h
  · exact h
  · exact h

theorem State.WindowsClear.lookOn {s : State} (h : s.WindowsClear) (f : Face) : (s.lookOn f).WindowsClear :=
  h.onSeq f _

theorem State.WindowsClear.lookAt {s : State} (h : s.WindowsClear) (f : Face) (i : StationId) :
    (s.lookAt f i).WindowsClear := by
  have hw : ((s.onSeq f fun q => q.walked i (walkStatus (s.st i))).onLine i fun c =>
      { c with toSequencer := [] }.takeWalk).WindowsClear :=
    (h.onSeq f _).onLine i fun _ hc => Station.OutOfWork.takeWalk (hc.withReports [])
  have hc := (State.WindowsClear.ite (p := walkStatus (s.st i) = .failed) (hw.failPause f) hw).testComplete f
  exact .ite (hc.lookOn f) hc

theorem State.WindowsClear.walkOnce {s : State} (h : s.WindowsClear) (f : Face) : (s.walkOnce f).WindowsClear := by
  unfold State.walkOnce
  dsimp only
  split
  · split
    · exact .ite (h.lookAt f _) (h.onSeq f _)
    · exact h.onSeq f _
  · exact h

theorem State.WindowsClear.walkMany (n : Nat) (f : Face) {s : State} (h : s.WindowsClear) :
    (State.walkMany n f s).WindowsClear := by
  induction n generalizing s with
  | zero => exact h
  | succ n ih =>
    rw [State.walkMany]
    exact .ite (ih (h.walkOnce f)) h

theorem State.WindowsClear.startOnce {s : State} (h : s.WindowsClear) (f : Face) (i : StationId) :
    (s.startOnce f i).WindowsClear := by
  have hq := h.onSeq f fun q => { q with startsOwed := q.startsOwed.tail }
  exact .ite (.ite ((hq.onSeq f _).onLine i fun _ hc => Station.OutOfWork.takeStart (hc.withReports [])) hq) h

theorem State.WindowsClear.returnOnce {s : State} (h : s.WindowsClear) (f : Face) (i : StationId) :
    (s.returnOnce f i).WindowsClear :=
  .ite ((h.onLine i fun _ hc => hc.takeReturn).onSeq f _) h

/-- A claim made of each station of a list, one after another. -/
theorem State.WindowsClear.foldl {claim : State → StationId → State}
    (hc : ∀ s i, s.WindowsClear → (claim s i).WindowsClear) (is : List StationId) {s : State} (h : s.WindowsClear) :
    (is.foldl claim s).WindowsClear := by
  induction is generalizing s with
  | nil => exact h
  | cons i rest ih => exact ih (hc s i h)

theorem State.WindowsClear.settleSeq {s : State} (h : s.WindowsClear) (f : Face) : (s.settleSeq f).WindowsClear :=
  .walkMany _ f (.foldl (fun _ i ht => ht.startOnce f i) _ (.foldl (fun _ i ht => ht.returnOnce f i) _ h))

theorem State.WindowsClear.failEntry {s : State} (h : s.WindowsClear) (f : Face) (i : StationId) :
    (s.failEntry f i).WindowsClear := (h.onSeq f _).failPause f

theorem State.WindowsClear.oweStart {s : State} (h : s.WindowsClear) (f : Face) (i : StationId) :
    (s.oweStart f i).WindowsClear := .ite (h.onSeq f _) h

theorem State.WindowsClear.takeEntered {s : State} (h : s.WindowsClear) (f : Face) (i : StationId)
    (entered : LineState) : (s.takeEntered f i entered).WindowsClear := by
  unfold State.takeEntered
  split
  · exact h
  · split
    · exact h.onSeq f _
    · exact h.onSeq f _
    · exact ((h.onSeq f _).testComplete f).lookOn f
    · exact h.failEntry f i
    · exact h.failEntry f i
    · exact h.failEntry f i
    · exact h.oweStart f i
    · exact h.oweStart f i
    · exact .ite (h.lookOn f) h
    · exact .ite (h.lookOn f) h
    · exact h

theorem State.WindowsClear.takeEmptied {s : State} (h : s.WindowsClear) (f : Face) (i : StationId) :
    (s.takeEmptied f i).WindowsClear := by
  unfold State.takeEmptied
  split
  · exact h
  · split
    · exact .ite (h.lookOn f) h
    · exact h.oweStart f i
    · exact h

theorem State.WindowsClear.takeLineReport {s : State} (h : s.WindowsClear) (i : StationId) (r : LineReport) :
    (s.takeLineReport i r).WindowsClear := by
  unfold State.takeLineReport
  split
  · exact h
  · refine .ite ?_ h
    cases r with
    | entered state => exact h.takeEntered _ i state
    | holdsEmptied => exact h.takeEmptied _ i

theorem State.WindowsClear.takeLineReports (i : StationId) (p : LineReport → Bool) (rs : List LineReport) {s : State}
    (h : s.WindowsClear) : (State.takeLineReports i p rs s).WindowsClear := by
  induction rs generalizing s with
  | nil => exact h
  | cons r rest ih =>
    have hr : ((s.setSt i { s.st i with toSequencer := rest }).takeLineReport i r).WindowsClear :=
      (h.setSt i fun _ hc => hc.withReports rest).takeLineReport i r
    exact .ite hr (ih hr)

theorem State.WindowsClear.takeReportOf {s : State} (h : s.WindowsClear) (i : StationId) (p : LineReport → Bool) :
    (s.takeReportOf i p).WindowsClear := .ite (h.takeLineReports i p _) h

theorem State.WindowsClear.resumed {s : State} (h : s.WindowsClear) (f : Face) : (s.resumed f).WindowsClear :=
  ((h.onSeq f _).testComplete f).lookOn f

/-- An abort gives a DEPARTING grant back to MOORED and makes none VACANT (R111, R135). -/
theorem State.WindowsClear.abortPlan {s : State} (h : s.WindowsClear) (f : Face) : (s.abortPlan f).WindowsClear := by
  refine (h.onFace f ⟨rfl, fun e => ?_⟩).dropReports f
  dsimp only at e
  split at e
  · cases e
  · exact e

theorem State.WindowsClear.expireStep {s : State} (h : s.WindowsClear) (f : Face) (i : StationId) :
    (s.expireStep f i).WindowsClear :=
  .ite ((h.onSeq f _).setSt i fun _ hc => by rw [State.st_onSeq] at hc; exact hc.latch _) h

/-! ### Emergency (chapter 7) -/

theorem GrantState.emergency_eq_vacant {g : GrantState} (h : g.emergency = .vacant) : g = .vacant := by
  cases g with
  | vacant => rfl
  | approach | moored | departing | cleared => cases h

theorem State.WindowsClear.emergencyAction {s : State} (h : s.WindowsClear) (f : Face) :
    (s.emergencyAction f).WindowsClear := by
  have hf : (s.onFace f fun x => { x with
      grant := x.grant.emergency, planReports := x.planReports + 1 }).WindowsClear :=
    h.onFace f ⟨rfl, GrantState.emergency_eq_vacant⟩
  unfold State.emergencyAction
  exact (hf.mapStations _ fun _ hc => hc.withClaims _).latchFace f _

theorem State.WindowsClear.activateEr {s : State} (h : s.WindowsClear) (f : Face) : (s.activateEr f).WindowsClear :=
  (h.onFace_same f rfl rfl).emergencyAction f

theorem State.WindowsClear.takePlanReportsTo {s : State} (h : s.WindowsClear) (f : Face) (left : Nat) :
    (s.takePlanReportsTo f left).WindowsClear := by
  have ht : (s.onFace f fun x => { x with planReports := left, sequencer := x.sequencer.frozen }).WindowsClear :=
    h.onFace_same f rfl rfl
  exact .ite (ht.dropReports f) ht

theorem State.WindowsClear.takePlanReports {s : State} (h : s.WindowsClear) (f : Face) :
    (s.takePlanReports f).WindowsClear := .ite h (h.takePlanReportsTo f 0)

/-! ### A window changes and a grant falls to VACANT over lines out of work (R106, R107, R110) -/

theorem Station.outOfWork_of_atRest {c : Station} (h : c.atRest = true) : c.OutOfWork := by
  rw [Station.atRest, Bool.or_eq_true, decide_eq_true_eq, decide_eq_true_eq] at h
  rcases h with hs | hs <;> (rw [Station.OutOfWork, hs]; rfl)

theorem State.sameLines_takePlanReports (s : State) (f : Face) : s.SameLines (s.takePlanReports f) := by
  unfold State.takePlanReports State.takePlanReportsTo
  split
  · exact .refl s
  · dsimp only
    split
    · exact (s.sameLines_onFace f _).trans (State.sameLines_dropReports _ f)
    · exact s.sameLines_onFace f _

theorem State.window_takePlanReports (s : State) (f g : Face) :
    ((s.takePlanReports f).face g).window = (s.face g).window := by
  have hf : ∀ x : FaceState → FaceState, (x (s.face f)).window = (s.face f).window →
      ((s.onFace f x).face g).window = (s.face g).window := by
    intro x hx
    by_cases e : g = f
    · subst e
      rwa [State.face_onFace_same]
    · rw [State.face_onFace_ne s x e]
  unfold State.takePlanReports State.takePlanReportsTo
  split
  · rfl
  · dsimp only
    split
    · rw [State.dropReports, State.face_mapStations]
      exact hf _ rfl
    · exact hf _ rfl

/-- A face may fall to VACANT when its window holds no line at work. -/
theorem State.WindowsClear.fallVacant {s : State} (h : s.WindowsClear) (f : Face)
    (hf : ∀ i, inWindow (s.face f).window i = true → (s.st i).OutOfWork) :
    (s.onFace f fun x => { x with grant := .vacant, tag := 0 }).WindowsClear := by
  have hw : ∀ g, ((s.onFace f fun x => { x with grant := .vacant, tag := 0 }).face g).window = (s.face g).window := by
    intro g
    by_cases e : g = f
    · subst e
      rw [State.face_onFace_same]
    · rw [State.face_onFace_ne s _ e]
  refine ⟨h.1.of_window_eq hw, fun g i hg hi => ?_⟩
  rw [hw] at hi
  rw [State.st_onFace]
  by_cases e : g = f
  · subst e
    exact hf i hi
  · rw [State.face_onFace_ne s _ e] at hg
    exact h.2 g i hg hi

theorem State.WindowsClear.vacated {s : State} (h : s.WindowsClear) (f : Face)
    (hf : s.windowAll (s.face f).window (fun c => decide (c.state = .stowed)) = true) :
    (s.vacated f).WindowsClear := by
  have hm : (s.mapStations (inWindow (s.face f).window) fun c => { c with releaseClaims := 0 }).WindowsClear :=
    h.mapStations _ fun _ hc => hc.withClaims 0
  refine (hm.takePlanReports f).fallVacant f fun i hi => ?_
  rw [State.window_takePlanReports, State.face_mapStations] at hi
  have hs : (s.st i).state = .stowed := of_decide_eq_true (State.windowAll_iff.mp hf i hi)
  have hst : (s.st i).OutOfWork := by rw [Station.OutOfWork, hs]; rfl
  refine Station.OutOfWork.of_state_eq hst ?_
  rw [(State.sameLines_takePlanReports _ f).1 i, State.st_mapStations, if_pos hi]

theorem valid_of_windowOperand {base limit : Byte} {w : Window} (h : windowOperand base limit = some (some w)) :
    w.Valid := by
  unfold windowOperand at h
  split at h
  · cases h
  · split at h
    · next hb =>
      cases h
      exact ⟨hb.1, hb.2.2⟩
    · cases h

theorem windowsMeet_eq_false {v w : Option Window} (h : windowsMeet v w = false) {i : StationId}
    (hi : inWindow v i = true) : inWindow w i = false := by
  have hm := List.any_eq_false.mp h i (mem_allStations i)
  simpa [hi] using hm

theorem otherFace_ne (f : Face) : otherFace f ≠ f := by
  cases f with
  | north => exact Face.noConfusion
  | south => exact Face.noConfusion

theorem eq_otherFace_of_ne {f g : Face} (h : g ≠ f) : g = otherFace f := by
  cases f with
  | north =>
    cases g with
    | north => exact absurd rfl h
    | south => rfl
  | south =>
    cases g with
    | north => rfl
    | south => exact absurd rfl h

theorem otherFace_otherFace (f : Face) : otherFace (otherFace f) = f := (eq_otherFace_of_ne (otherFace_ne f).symm).symm

/-- A valid window apart from the other face's may be put over records out of work (R105, R112). -/
theorem State.WindowsClear.onFace_window {s : State} (h : s.WindowsClear) (f : Face) {g : FaceState → FaceState}
    (hv : ∀ w, (g (s.face f)).window = some w → w.Valid)
    (ha : ∀ i, inWindow (g (s.face f)).window i = true → inWindow (s.face (otherFace f)).window i = false)
    (hc : ∀ i, inWindow (g (s.face f)).window i = true → (s.st i).OutOfWork) : (s.onFace f g).WindowsClear := by
  have hf : (s.onFace f g).face f = g (s.face f) := s.face_onFace_same f g
  have ho : (s.onFace f g).face (otherFace f) = s.face (otherFace f) := s.face_onFace_ne g (otherFace_ne f)
  refine ⟨(State.windowLaw_iff _).mpr ⟨fun f' w hw => ?_, fun f' i hi => ?_⟩, fun f' i hg hi => ?_⟩
  · obtain rfl | e := Decidable.em (f' = f)
    · exact hv w (hf ▸ hw)
    · obtain rfl := eq_otherFace_of_ne e
      exact h.1.1 _ w (ho ▸ hw)
  · obtain rfl | e := Decidable.em (f' = f)
    · rw [ho]
      exact ha i (hf ▸ hi)
    · obtain rfl := eq_otherFace_of_ne e
      rw [ho] at hi
      rw [otherFace_otherFace, hf]
      exact Bool.eq_false_iff.mpr fun hw => Bool.false_ne_true ((ha i hw).symm.trans hi)
  · rw [State.st_onFace]
    obtain rfl | e := Decidable.em (f' = f)
    · exact hc i (hf ▸ hi)
    · obtain rfl := eq_otherFace_of_ne e
      rw [ho] at hg hi
      exact h.2 _ i hg hi

/-- An accepted SET_WINDOW (R106, R107). -/
theorem State.WindowsClear.putWindow {s : State} (h : s.WindowsClear) (f : Face) {w : Option Window}
    (hv : ∀ v, w = some v → v.Valid) (hr : s.windowAll w Station.atRest = true)
    (hm : windowsMeet w (s.face (otherFace f)).window = false) : (s.putWindow f w).WindowsClear := by
  refine ((h.dropReports f).onFace_window f hv (fun i hi => ?_) fun i hi => ?_).dropReports f
  · rw [State.dropReports, State.face_mapStations]
    exact windowsMeet_eq_false hm hi
  · rw [(s.sameLines_dropReports f).1 i]
    exact (Station.outOfWork_of_atRest (State.windowAll_iff.mp hr i hi)).of_state_eq rfl

end Sys2Proof.Machine
end

section
/-! PROOF. R112 over the commands: how each kind of command is let in, the commands by family, and the step. -/

namespace Sys2Proof.Machine

/-! ### How a command is let in -/

/-- The part that the command leaves, if it leaves one, keeps R105 and R112. -/
def LeavesWindowsClear (o : Out) : Prop := ∀ t, o = .next t → t.WindowsClear

theorem leavesWindowsClear_next {t : State} (h : t.WindowsClear) : LeavesWindowsClear (.next t) := by
  rintro _ ⟨⟩
  exact h

/-! ### Reset (R158) -/

/-- A part put at its reset values has no window (R158). -/
theorem windowsClear_of_no_window {t : State} (hw : ∀ f, (t.face f).window = none) : t.WindowsClear := by
  refine ⟨(State.windowLaw_iff t).mpr ⟨fun f w e => ?_, fun f i hi => ?_⟩, fun f i _ hi => ?_⟩
  · rw [hw] at e
    cases e
  · rw [hw] at hi
    exact absurd hi Bool.false_ne_true
  · rw [hw] at hi
    exact absurd hi Bool.false_ne_true

theorem leavesWindowsClear_execPowerOnReset (s : State) : LeavesWindowsClear (execPowerOnReset s) :=
  leavesWindowsClear_next (t := { State.reset with pending := s.pending, inReset := true })
    (windowsClear_of_no_window fun f => by cases f <;> rfl)

section
variable {s : State} (h : s.WindowsClear)
include h

theorem State.WindowsClear.live {k : State → State} (hk : (k s).WindowsClear) : LeavesWindowsClear (live s k) :=
  leavesWindowsClear_next (.ite h hk)

theorem State.WindowsClear.stationEvent (i : StationId) {g : Station → Station}
    (hg : ∀ c, c.OutOfWork → (g c).OutOfWork) : LeavesWindowsClear (stationEvent i g s) :=
  h.live (h.onLine i fun _ hc => hg _ hc)

theorem State.WindowsClear.shoreAnswer (n : Nat) (atOnce : Bool) (a : Answer) :
    (s.shoreAnswer n atOnce a).WindowsClear := h.withShore _

theorem State.WindowsClear.clearBits : s.clearBits.WindowsClear := h.withShore _

theorem State.WindowsClear.hostRequest (i : Instr) {k : State → State × Answer}
    (hk : ∀ s, s.WindowsClear → (k s).1.WindowsClear) : LeavesWindowsClear (hostRequest i k s) := by
  refine h.live ?_
  split
  · exact .ite ((hk _ h.clearBits).shoreAnswer _ _ _) h
  · exact h

theorem State.WindowsClear.hostLine (i : Instr) (station : StationId) {g : Station → Station × Answer}
    (hg : ∀ c, c.OutOfWork → (g c).1.OutOfWork) : LeavesWindowsClear (hostLine i station g s) :=
  h.hostRequest i fun _ hs => hs.onLine station fun _ hc => hg _ hc

theorem State.WindowsClear.portRequest (i : Instr) (a : Answer) : LeavesWindowsClear (portRequest i a s) := by
  refine h.live ?_
  split
  · exact .ite (h.shoreAnswer _ _ _) h
  · exact h

theorem State.WindowsClear.refuseShip (f : Face) (tag : Half) (r : AccessRefusal) :
    (s.refuseShip f tag r).WindowsClear := by
  unfold State.refuseShip
  refine State.WindowsClear.shipAnswer ?_ f tag _
  split
  · exact h.raiseFlag f _
  · exact h

theorem State.WindowsClear.shipFrame (f : Face) (tag : Half) (mooring : Bool)
    {k : State → Except AccessRefusal (State × Answer)}
    (hk : ∀ s r, s.WindowsClear → k s = .ok r → r.1.WindowsClear) :
    LeavesWindowsClear (shipFrame f tag mooring k s) := by
  have hl := h.leaveFrame f false
  refine h.live (.ite ?_ h)
  dsimp only
  split
  · exact hl.refuseShip f tag _
  · split
    · exact hl.refuseShip f tag _
    · next r hr => exact (hk _ r hl hr).shipAnswer f tag _

/-- A ship's request decided by one record: SHIP_CHANGE is latched beside what its rule gives (R21). -/
theorem State.WindowsClear.shipLine (f : Face) (tag : Half) (selector : Byte) (mooring : Bool)
    {g : State → StationId → Station → Station × Answer}
    (hg : ∀ s i c, c.OutOfWork → (g s i c).1.OutOfWork) :
    LeavesWindowsClear (shipLine f tag selector mooring g s) := by
  refine h.shipFrame f tag mooring fun s r hs hr => ?_
  dsimp only at hr
  split at hr
  · cases hr
  · next i _ =>
    cases hr
    exact hs.onLine i fun _ hc => (hg _ _ _ hc).shipChanged _

theorem State.WindowsClear.lineRequest (sender : LineBy) (i : Instr) (mooring : Bool)
    {g : Holder → State → StationId → Station → Station × Answer}
    (hg : ∀ holder s i c, c.OutOfWork → (g holder s i c).1.OutOfWork) :
    LeavesWindowsClear (lineRequest sender i mooring g s) := by
  unfold Machine.lineRequest
  cases sender with
  | host station => exact h.hostRequest i fun _ hs => hs.onLine station fun _ hc => hg _ _ _ _ hc
  | ship f tag selector => exact h.shipLine f tag selector mooring (hg .ship)

/-! ### Requests on a line whose checks ask for a grant -/

theorem State.WindowsClear.execPayout (station : StationId) (target : Half) :
    LeavesWindowsClear (execPayout station target s) := by
  refine h.hostRequest _ fun s hs => hs.onLine station fun hv hc => ?_
  obtain ⟨f, hf, hg⟩ := State.faceOf_of_vacantAt hs.1 hv
  rw [hf]
  split
  · exact hc.payoutFromStowed hg _
  · next hst => exact absurd hst (hc.ne rfl)
  · exact hc

theorem State.WindowsClear.execClearFault (station : StationId) (target : Byte) :
    LeavesWindowsClear (execClearFault station target s) := by
  refine h.hostRequest _ fun s hs => hs.onLine station fun hv hc => ?_
  rw [State.grantTag_of_vacantAt hs.1 hv]
  split
  · exact hc
  · split
    · exact hc
    · exact hc.clearFaultTo _

theorem State.WindowsClear.execAdopt (station : StationId) (target presence fittingTag : Byte) (low high : Half) :
    LeavesWindowsClear (execAdopt station target presence fittingTag low high s) := by
  refine h.hostRequest _ fun s hs => hs.onLine station fun hv hc => ?_
  rw [State.grantTag_of_vacantAt hs.1 hv]
  split
  · exact hc
  · split
    · exact hc.adoptTo _ _ _
    · exact hc

/-! ### Views -/

theorem State.WindowsClear.execQueryLine (sender : LineBy) : LeavesWindowsClear (execQueryLine sender s) := by
  unfold Machine.execQueryLine
  cases sender with
  | host i => exact h.hostRequest _ fun _ hs => hs
  | ship f tag selector =>
    refine h.shipFrame f tag false fun s r hs hr => ?_
    split at hr
    · cases hr
    · cases hr
      exact hs

theorem State.WindowsClear.execWindowList (sender : FaceBy) : LeavesWindowsClear (execWindowList sender s) := by
  unfold Machine.execWindowList
  cases sender with
  | host f => exact h.hostRequest _ fun _ hs => hs
  | ship f tag selector =>
    refine h.shipFrame f tag false fun s r hs hr => ?_
    cases hr
    exact hs

/-! ### Berth faces (chapter 5) -/

theorem State.WindowsClear.execSetWindow (face : Face) (base limit : Byte) :
    LeavesWindowsClear (execSetWindow face base limit s) := by
  refine h.hostRequest _ fun s hs => ?_
  dsimp only
  split
  · exact hs
  · next w hw =>
    split
    · exact hs
    · split
      · exact hs
      · next hr =>
        split
        · exact hs
        · next hm =>
          have hrest := Bool.and_eq_true_iff.mp (Decidable.not_not.mp hr)
          exact hs.putWindow face (fun v hv => valid_of_windowOperand (hw.trans (congrArg some hv))) hrest.2
            (Bool.eq_false_iff.mpr hm)

theorem State.WindowsClear.execArrive (face : Face) (tag : Half) : LeavesWindowsClear (execArrive face tag s) := by
  refine h.hostRequest _ fun s hs => ?_
  dsimp only
  split
  · exact hs
  · split
    · exact hs
    · split
      · exact hs
      · split
        · exact hs
        · split
          · exact hs
          · exact hs.onFace face ⟨rfl, GrantState.noConfusion⟩

theorem State.WindowsClear.execSecure (face : Face) : LeavesWindowsClear (execSecure face s) := by
  refine h.hostRequest _ fun s hs => ?_
  dsimp only
  split
  · exact hs.onFace face ⟨rfl, GrantState.noConfusion⟩
  · exact hs

theorem State.WindowsClear.execVacate (face : Face) : LeavesWindowsClear (execVacate face s) := by
  refine h.hostRequest _ fun s hs => ?_
  dsimp only
  split
  · exact hs
  · split
    · exact hs
    · next hw => exact hs.vacated face (Decidable.not_not.mp hw)

/-! ### Departure plans (chapter 6) -/

theorem State.WindowsClear.execSetPlan (face : Face) (width : Byte) (timeout : Half) (stations : List Byte) :
    LeavesWindowsClear (execSetPlan face width timeout stations s) := by
  refine h.hostRequest _ fun s hs => ?_
  dsimp only
  split
  · exact hs
  · split
    · exact hs
    · split
      · exact hs
      · split
        · exact hs
        · split
          · exact hs
          · exact (hs.settleSeq face).onSeq face _

theorem State.WindowsClear.execDepart (face : Face) : LeavesWindowsClear (execDepart face s) := by
  refine h.hostRequest _ fun s hs => ?_
  have hd : (((s.settleSeq face).dropReports face).onFace face fun x => { x with
      grant := .departing, planReports := 0, sequencer := x.sequencer.departed }).WindowsClear :=
    ((hs.settleSeq face).dropReports face).onFace face ⟨rfl, GrantState.noConfusion⟩
  dsimp only
  split
  · exact hs
  · split
    · exact hs
    · exact .ite (.walkMany _ face hd) hd

theorem State.WindowsClear.execPause (face : Face) : LeavesWindowsClear (execPause face s) := by
  refine h.hostRequest _ fun s hs => ?_
  dsimp only
  split
  · exact hs
  · split
    · exact hs.settleSeq face
    · exact ((hs.settleSeq face).onSeq face _).latchFace face _

theorem State.WindowsClear.execResume (face : Face) : LeavesWindowsClear (execResume face s) := by
  refine h.hostRequest _ fun s hs => ?_
  split
  · exact hs.resumed face
  · exact hs
  · exact hs
  · exact hs

theorem State.WindowsClear.execAbortDepart (face : Face) : LeavesWindowsClear (execAbortDepart face s) := by
  refine h.hostRequest _ fun s hs => ?_
  dsimp only
  split
  · exact hs
  · split
    · exact hs.settleSeq face
    · exact (hs.settleSeq face).abortPlan face

/-- A claim of the sequencer of the record's face; a record with face none has no sequencer. -/
theorem State.WindowsClear.byFace (station : StationId) {claim : State → Face → State}
    (hk : ∀ f, (claim s f).WindowsClear) :
    LeavesWindowsClear (Machine.live s fun s =>
      match s.faceOf station with
      | some f => claim s f
      | none => s) := by
  refine h.live ?_
  split
  · exact hk _
  · exact h

/-! ### Settings and attention (chapters 8 and 9) -/

theorem State.WindowsClear.execSetSetting (target : Scoped) (item : Byte) (value : Half) :
    LeavesWindowsClear (execSetSetting target item value s) := by
  refine h.hostRequest _ fun s hs => ?_
  split
  · exact hs
  · split
    · exact hs
    · exact hs.onLine _ fun _ hc => hc.putSetting _ _
  · next f k _ =>
    split
    · exact hs
    · exact hs.onFace f (FaceState.keepsBerth_putSetting _ k _)

theorem State.WindowsClear.execGetSetting (target : Scoped) (item : Byte) :
    LeavesWindowsClear (execGetSetting target item s) := by
  refine h.hostRequest _ fun s hs => ?_
  split
  · exact hs
  · exact hs
  · exact hs

theorem State.WindowsClear.execReadAttention (target : Scoped) : LeavesWindowsClear (execReadAttention target s) := by
  refine h.hostRequest _ fun s hs => ?_
  cases target with
  | station i => exact hs
  | face f => exact hs
  | device => exact hs
  | other scope target => exact hs

theorem State.WindowsClear.execAckAttention (target : Scoped) (codes : List Byte) :
    LeavesWindowsClear (execAckAttention target codes s) := by
  refine h.hostRequest _ fun s hs => ?_
  cases target with
  | station i =>
    dsimp only
    split
    · exact hs
    · exact hs.setSt i fun _ hc => hc.withAttn _
  | face f =>
    dsimp only
    split
    · exact hs
    · exact hs.onFace_same f rfl rfl
  | device => exact hs
  | other scope target => exact hs

theorem State.WindowsClear.execClearLinkStatus (face : Face) (flags : Byte) :
    LeavesWindowsClear (execClearLinkStatus face flags s) := by
  refine h.hostRequest _ fun s hs => ?_
  split
  · exact hs
  · exact hs.onFace_same face rfl rfl

/-! ### Emergency (chapter 7) -/

theorem State.WindowsClear.execEmergencyPlanReport (face : Face) :
    LeavesWindowsClear (execEmergencyPlanReport face s) :=
  h.live (.ite h (h.takePlanReportsTo face _))

theorem State.WindowsClear.execReleaseClaim (station : StationId) :
    LeavesWindowsClear (execReleaseClaim station s) := by
  refine h.stationEvent station fun c hc => ?_
  split
  · exact hc
  · exact Station.outOfWork_takeRelease _

/-! ### Events of a Drive and Clamp channel (chapter 4) -/

theorem State.WindowsClear.execDurationExpiry (station : StationId) :
    LeavesWindowsClear (execDurationExpiry station s) := by
  refine h.stationEvent station fun c hc => ?_
  split
  · exact (hc.endSegment _).settleEnds
  · exact hc

theorem State.WindowsClear.execStallExpiry (station : StationId) : LeavesWindowsClear (execStallExpiry station s) := by
  refine h.stationEvent station fun c hc => ?_
  split
  · exact hc.endSegment _
  · exact hc

theorem State.WindowsClear.execClampConfirm (station : StationId) :
    LeavesWindowsClear (execClampConfirm station s) := by
  refine h.stationEvent station fun c hc => ?_
  split
  · split
    · exact hc.readSwitches _
    · exact hc
  · exact hc

theorem State.WindowsClear.execClampTimeout (station : StationId) :
    LeavesWindowsClear (execClampTimeout station s) := by
  refine h.stationEvent station fun c hc => ?_
  split
  · exact (hc.withDrive _).takeTimeout
  · exact hc

theorem State.WindowsClear.execEaseLimitExpiry (station : StationId) :
    LeavesWindowsClear (execEaseLimitExpiry station s) := by
  refine h.stationEvent station fun c hc => ?_
  split
  · exact c.outOfWork_enterFault _
  · exact hc

/-! ### Reset and the ports (chapters 8, 10 and 11) -/

/-- A home switch found closed counts as a home closing, and an ER input found ACTIVE as an activation (R82, R141). -/
theorem State.WindowsClear.execResetEnd (pins : PinLevels) : LeavesWindowsClear (execResetEnd pins s) := by
  unfold Machine.execResetEnd
  split
  · have hs : ({ s with
        inReset := false
        shore := { s.shore with selLow := pins.selLow }
        stations := Vector.ofFn fun i =>
          (s.st i).firstLevels (pins.homeClosed.getLsbD i.val) (pins.openMade.getLsbD i.val)
            (pins.closedMade.getLsbD i.val) ⟨pins.encA.getLsbD i.val, pins.encB.getLsbD i.val⟩ } :
        State).WindowsClear := by
      refine h.of_face_eq (fun f => by cases f <;> rfl) fun i _ hi => ?_
      simpa [State.st] using hi.firstLevels _ _ _ _
    have hl := (hs.onFace_same .north (g := fun x => x.firstLight (pins.irrx.getLsbD 0)) rfl rfl).onFace_same .south
      (g := fun x => x.firstLight (pins.irrx.getLsbD 1)) rfl rfl
    have hn := State.WindowsClear.ite (p := pins.er.getLsbD 0 = true) (hl.activateEr .north) hl
    exact leavesWindowsClear_next (.ite (hn.activateEr .south) hn)
  · exact leavesWindowsClear_next h

theorem State.WindowsClear.execShoreFrameRefused (frame : List Byte) :
    LeavesWindowsClear (execShoreFrameRefused frame s) := by
  refine h.live (.ite ?_ h)
  split
  · exact h.shoreAnswer _ _ _
  · exact h
  · exact h

theorem State.WindowsClear.refuseFrame (f : Face) (tag : Half) (status : Status) :
    (s.refuseFrame f tag status).WindowsClear := by
  have hl := h.leaveFrame f false
  have hr := hl.raiseFlag f .frameError
  exact .ite (.ite (hr.shipAnswer f tag _) hr) (hl.shipAnswer f tag _)

theorem State.WindowsClear.execShipFrameRefused (face : Face) (frame : List Byte) :
    LeavesWindowsClear (execShipFrameRefused face frame s) := by
  refine h.live (.ite ?_ h)
  split
  · exact h.refuseFrame face _ _
  · exact h
  · exact h

theorem State.WindowsClear.execStartMarkAccepted (face : Face) (mark : Pulse) (marks changes : Nat) :
    LeavesWindowsClear (execStartMarkAccepted face mark s marks changes) := by
  refine h.live ?_
  dsimp only
  split
  · exact .ite (h.onFace_same face rfl rfl) h
  · exact h

theorem State.WindowsClear.execShipFrameError (face : Face) (signal : List Pulse) :
    LeavesWindowsClear (execShipFrameError face signal s) := by
  refine h.live (.ite ?_ h)
  split
  · exact (h.leaveFrame face _).raiseFlag face _
  · exact h

theorem State.WindowsClear.execShipFrameDiscardEnd (face : Face) (signal : List Pulse) :
    LeavesWindowsClear (execShipFrameDiscardEnd face signal s) := by
  refine h.live (.ite ?_ h)
  split
  · exact (h.leaveFrame face _).shipAnswer face _ _
  · exact h

/-! ### Every command -/

theorem State.WindowsClear.exec (c : Instr) : LeavesWindowsClear (exec c s) := by
  cases c with dsimp only [Machine.exec]
  | powerOnReset => exact leavesWindowsClear_execPowerOnReset s
  | selectBegin bits => exact h.live (.ite h (h.withShore _))
  | selectEnd => exact h.live (.ite (h.withShore _) h)
  | shoreFrameRefused frame => exact h.execShoreFrameRefused frame
  | shipFrameRefused face frame => exact h.execShipFrameRefused face frame
  | ident => exact h.portRequest _ _
  | queryLine sender => exact h.execQueryLine sender
  | windowList sender => exact h.execWindowList sender
  | pushHold sender reason => exact h.lineRequest sender _ false fun _ _ _ _ hc => hc.pushHold _
  | popHold sender => exact h.lineRequest sender _ false fun _ _ _ _ hc => hc.popHold _
  | setBand station low high => exact h.hostLine _ station fun _ hc => hc.setBand _
  | requestBand face tag selector low high =>
    exact h.shipLine face tag selector false fun _ _ _ hc => hc.requestBand _ _ _
  | markAttached sender fittingTag => exact h.lineRequest sender _ true fun _ _ _ _ hc => hc.markAttached _ _ _
  | payout station target => exact h.execPayout station target
  | takeUp sender => exact h.lineRequest sender _ true fun _ _ _ _ hc => hc.takeUp
  | lock station => exact h.hostLine _ station fun _ hc => hc.lock
  | unlock station => exact h.hostLine _ station fun _ hc => hc.unlock
  | release station => exact h.hostRequest _ fun _ hs => hs.onLine station fun _ hc => hc.release _
  | cancel station => exact h.hostLine _ station fun _ hc => hc.cancel
  | markClear sender => exact h.lineRequest sender _ false fun _ _ _ _ hc => hc.markClear
  | clearFault station target => exact h.execClearFault station target
  | adopt station target presence fittingTag low high =>
    exact h.execAdopt station target presence fittingTag low high
  | setWindow face base limit => exact h.execSetWindow face base limit
  | arrive face tag => exact h.execArrive face tag
  | secure face => exact h.execSecure face
  | vacate face => exact h.execVacate face
  | queryFace face => exact h.hostRequest _ fun _ hs => hs
  | setPlan face width timeout stations => exact h.execSetPlan face width timeout stations
  | queryPlan face => exact h.hostRequest _ fun _ hs => hs
  | depart face => exact h.execDepart face
  | pause face => exact h.execPause face
  | resume face => exact h.execResume face
  | abortDepart face => exact h.execAbortDepart face
  | emergencyRelease face => exact h.hostRequest _ fun _ hs => hs.emergencyAction face
  | summary => exact h.hostRequest _ fun _ hs => hs
  | readAttention target => exact h.execReadAttention target
  | ackAttention target codes => exact h.execAckAttention target codes
  | setClassMask mask => exact h.hostRequest _ fun _ hs => hs.withMask _ _
  | clearLinkStatus face flags => exact h.execClearLinkStatus face flags
  | setSetting target item value => exact h.execSetSetting target item value
  | getSetting target item => exact h.execGetSetting target item
  | erActivation face => exact h.live (.ite h (h.activateEr face))
  | erDeactivation face => exact h.live (h.onFace_same face rfl rfl)
  | releaseClaim station => exact h.execReleaseClaim station
  | emergencyPlanReport face => exact h.execEmergencyPlanReport face
  | tmSample station edges => exact h.stationEvent station fun _ hc => hc.takeSample edges
  | sensorFailed station => exact h.stationEvent station fun _ hc => hc.takeReport _
  | sensorRecovered station => exact h.stationEvent station fun _ hc => hc.takeReport _
  | bandDwell station side => exact h.stationEvent station fun _ hc => hc.takeBandDwell side
  | tendingCorrection station => exact h.stationEvent station fun _ hc => hc.takeReport _
  | partedLine station => exact h.stationEvent station fun _ hc => hc.takeReport _
  | lockTrip station => exact h.stationEvent station fun _ hc => hc.takeReport _
  | autoClear station => exact h.stationEvent station fun _ hc => hc.takeAutoClear
  | tensionEndCondition station => exact h.stationEvent station fun _ hc => hc.testCurrent _
  | encoderCount station levels => exact h.stationEvent station fun _ hc => hc.foldl_takeLevels levels
  | homeMarginSpent station => exact h.stationEvent station fun _ hc => hc.spendMargin
  | homeClosing station => exact h.stationEvent station fun _ hc => hc.homeCloses
  | homeOpening station => exact h.stationEvent station fun _ hc => hc.withDrive _
  | durationExpiry station => exact h.execDurationExpiry station
  | stallExpiry station => exact h.execStallExpiry station
  | clampConfirm station => exact h.execClampConfirm station
  | clampTimeout station => exact h.execClampTimeout station
  | clampChange station reading => exact h.stationEvent station fun _ hc => hc.readSwitches reading
  | easeLimitExpiry station => exact h.execEaseLimitExpiry station
  | stateReport station => exact h.live (h.takeReportOf station _)
  | holdStackEmptied station => exact h.live (h.takeReportOf station _)
  | walkClaim face => exact h.live (h.walkOnce face)
  | startClaim station => exact h.byFace station fun f => h.startOnce f station
  | returnClaim station => exact h.byFace station fun f => h.returnOnce f station
  | stepTimerExpiry station => exact h.byFace station fun f => h.expireStep f station
  | shipFrameError face signal => exact h.execShipFrameError face signal
  | shipFrameDiscardEnd face signal => exact h.execShipFrameDiscardEnd face signal
  | answerTransmitStart face => exact h.live (.ite (h.onFace_same face rfl rfl) h)
  | answerSent face => exact h.live (.ite (h.onFace_same face rfl rfl) h)
  | turnaroundEnd face high => exact h.live (.ite (h.leaveFrame face _) h)
  | resetEnd pins => exact h.execResetEnd pins
  | startMarkAccepted face mark marks changes => exact h.execStartMarkAccepted face mark marks changes

theorem State.WindowsClear.step : LeavesWindowsClear (step s) := by
  unfold Machine.step
  split
  · exact leavesWindowsClear_next h
  · exact (h.withPending _).exec _

end

/-- Settles O58: a record out of work comes to work by a request that asks for a grant, and a grant falls to VACANT,
or a window changes, over lines out of work alone. -/
theorem everyStepKeepsVacantWindowsClear : Obligations.EveryStepKeepsVacantWindowsClear := by
  intro s t hw hv hstep
  exact State.WindowsClear.step (s := s) ⟨hw, hv⟩ t hstep

end Sys2Proof.Machine
end

section
/-! PROOF. R169, R170: what ATTN follows, the class mask and its byte, and the port's own refusal of a whole frame. -/

namespace Sys2Proof.Machine

/-! ### Attention sets by class (R165) -/

theorem StationCondition.mem_all (k : StationCondition) : k ∈ StationCondition.all := by cases k <;> decide

theorem FaceCondition.mem_all (k : FaceCondition) : k ∈ FaceCondition.all := by cases k <;> decide

theorem StationAttn.hasClass_iff (a : StationAttn) (c : AttnClass) :
    a.hasClass c = true ↔ ∃ k, a.has k = true ∧ StationCondition.cls k = c := by
  simp [StationAttn.hasClass, StationCondition.mem_all]

theorem FaceAttn.hasClass_iff (a : FaceAttn) (c : AttnClass) :
    a.hasClass c = true ↔ ∃ k, a.has k = true ∧ FaceCondition.cls k = c := by
  simp [FaceAttn.hasClass, FaceCondition.mem_all]

@[simp] theorem StationAttn.has_empty (k : StationCondition) : ({} : StationAttn).has k = false := by cases k <;> rfl

@[simp] theorem FaceAttn.has_empty (k : FaceCondition) : ({} : FaceAttn).has k = false := by cases k <;> rfl

/-! ### The ATTN output (R169) -/

theorem State.exists_mem_stations_iff (s : State) {p : Station → Prop} :
    (∃ c ∈ s.stations.toList, p c) ↔ ∃ i, p (s.st i) := by
  constructor
  · rintro ⟨c, hc, hp⟩
    obtain ⟨k, hk, rfl⟩ := Vector.mem_iff_getElem.mp (Vector.mem_toList_iff.mp hc)
    exact ⟨⟨k, hk⟩, hp⟩
  · rintro ⟨i, hp⟩
    exact ⟨s.st i, Vector.mem_toList_iff.mpr (Vector.getElem_mem i.isLt), hp⟩

theorem exists_face_iff {p : Face → Prop} : (∃ f, p f) ↔ p .north ∨ p .south := by
  constructor
  · rintro ⟨_ | _, h⟩
    · exact .inl h
    · exact .inr h
  · rintro (h | h)
    · exact ⟨_, h⟩
    · exact ⟨_, h⟩

/-- ATTN by class: a class drives it while it is unmasked and some set has a pending condition of it. -/
theorem State.attnAsserted_iff_class (s : State) :
    s.attnAsserted = true ↔ ∃ c, s.unmasked c = true ∧
      ((∃ i, (s.st i).attn.hasClass c = true) ∨ ∃ f, (s.face f).attn.hasClass c = true) := by
  have hmem : ∀ c, c ∈ [AttnClass.urgent, AttnClass.routine] := fun c => by cases c <;> decide
  simp only [State.attnAsserted, List.any_eq_true, hmem, true_and, Bool.and_eq_true, Bool.or_eq_true,
    State.exists_mem_stations_iff, exists_face_iff, State.face, or_assoc]

/-- ATTN by condition (R169). -/
theorem State.attnAsserted_iff (s : State) :
    s.attnAsserted = true ↔
      (∃ i k, (s.st i).attn.has k = true ∧ s.unmasked (StationCondition.cls k) = true) ∨
        ∃ f k, (s.face f).attn.has k = true ∧ s.unmasked (FaceCondition.cls k) = true := by
  rw [s.attnAsserted_iff_class]
  constructor
  · rintro ⟨c, hc, ⟨i, hi⟩ | ⟨f, hf⟩⟩
    · obtain ⟨k, hk, rfl⟩ := ((s.st i).attn.hasClass_iff c).mp hi
      exact .inl ⟨i, k, hk, hc⟩
    · obtain ⟨k, hk, rfl⟩ := ((s.face f).attn.hasClass_iff c).mp hf
      exact .inr ⟨f, k, hk, hc⟩
  · rintro (⟨i, k, hk, hc⟩ | ⟨f, k, hk, hc⟩)
    · exact ⟨_, hc, .inl ⟨i, ((s.st i).attn.hasClass_iff _).mpr ⟨k, hk, rfl⟩⟩⟩
    · exact ⟨_, hc, .inr ⟨f, ((s.face f).attn.hasClass_iff _).mpr ⟨k, hk, rfl⟩⟩⟩

theorem State.attnAsserted_of_masked {s : State} (h : ∀ c, s.unmasked c = false) : s.attnAsserted = false := by
  rw [Bool.eq_false_iff, Ne, s.attnAsserted_iff_class]
  rintro ⟨c, hc, _⟩
  exact Bool.false_ne_true ((h c).symm.trans hc)

theorem State.attnAsserted_of_attn_empty {s : State} (hs : ∀ i, (s.st i).attn = {})
    (hf : ∀ f, (s.face f).attn = {}) : s.attnAsserted = false := by
  rw [Bool.eq_false_iff, Ne, s.attnAsserted_iff]
  simp [hs, hf]

/-- At the reset values nothing is pending (R168), so the part in reset releases ATTN (R158, R169). -/
theorem State.attnAsserted_in_reset (pending : List Instr) :
    { State.reset with pending := pending, inReset := true }.attnAsserted = false := by
  refine State.attnAsserted_of_attn_empty (fun i => ?_) (fun f => by cases f <;> rfl)
  simp [State.st, State.reset, Station.reset]

/-! ### The class mask (R170, Table 12-2) -/

theorem getLsbD_bitAt (b : Bool) {k : Nat} (hk : k < 8) (j : Nat) : (bitAt b k).getLsbD j = (b && decide (j = k)) := by
  cases b with
  | false => simp [bitAt]
  | true =>
    have hpow : BitVec.ofNat 8 (2 ^ k) = BitVec.twoPow 8 k := by
      apply BitVec.eq_of_toNat_eq
      simp [BitVec.toNat_twoPow]
    simp only [bitAt, if_true, hpow, BitVec.getLsbD_twoPow, Bool.true_and]
    rw [decide_eq_true hk, Bool.true_and]
    exact decide_eq_decide.mpr eq_comm

/-- The part with the two marks of a mask byte in force. -/
def State.putMask (s : State) (mask : Byte) : State :=
  { s with urgentMasked := mask.getLsbD 0, routineMasked := mask.getLsbD 1 }

/-- The two marks of a mask byte are its bits 0 and 1. -/
theorem getLsbD_bothMarks : ∀ j < 8, (3 : Byte).getLsbD j = (decide (j = 0) || decide (j = 1)) := by decide

/-- The mask byte of the part is the request's, without its unmarked bits (R190). -/
theorem State.maskByte_putMask (s : State) (mask : Byte) : (s.putMask mask).maskByte = mask &&& 3 := by
  apply BitVec.eq_of_getLsbD_eq
  intro j hj
  rw [State.maskByte, BitVec.getLsbD_or, BitVec.getLsbD_and, getLsbD_bitAt _ (by decide), getLsbD_bitAt _ (by decide),
    getLsbD_bothMarks j hj, Bool.and_or_distrib_left]
  by_cases h0 : j = 0
  · simp [State.putMask, h0]
  · by_cases h1 : j = 1
    · simp [State.putMask, h1]
    · simp [h0, h1]

theorem execSetClassMask_ready {s : State} (h : s.HostReady) (mask : Byte) :
    execSetClassMask mask s = .next ((s.putMask mask).shoreAnswer 5 false ⟨.ok, [mask &&& 3]⟩) := by
  rw [← s.maskByte_putMask mask]
  exact hostRequest_ready h (i := .setClassMask mask) rfl _

theorem setClassMask_completes {s : State} (h : s.HostReady) (mask : Byte) :
    Completes (.setClassMask mask) s fun t =>
      s.KeepsStations t (fun _ => false) ∧ s.KeepsFaces t (fun _ => false) ∧ t.pending = s.pending ∧
        t.inReset = s.inReset ∧ t.urgentMasked = mask.getLsbD 0 ∧ t.routineMasked = mask.getLsbD 1 ∧
        s.Answers t 1 .ok [mask &&& 3] :=
  ⟨_, execSetClassMask_ready h mask, fun _ _ => rfl, fun f _ => by cases f <;> rfl, rfl, rfl, rfl, rfl, rfl⟩

/-! ### The port's own refusal of a whole frame (R177) -/

/-- A frame as Table 12-1 writes it passes the checks on its end and its sum; its code, length and target decide. -/
theorem readShoreFrame_shoreFrame (code target : Byte) {payload : List Byte} (h : payload.length ≤ 40) :
    readShoreFrame (shoreFrame code target payload) = readShoreRequest code target payload := by
  have hn : (natByte payload.length).toNat = payload.length := toNat_natByte (by omega)
  have hsum : byteSum (shoreFrame code target payload) = 0 := byteSum_closed _
  have hmax : ¬Config.shorePayloadMax < payload.length := by
    simp only [Config.shorePayloadMax]
    omega
  simp only [shoreFrame, List.cons_append] at hsum ⊢
  simp [readShoreFrame, hn, hmax, hsum]

/-- The frame of a request that a check of R177 refuses is answered by the port at once. -/
theorem shoreFrameRefused_completes {s : State} (h : s.HostReady) {code target : Byte} {payload : List Byte}
    (hn : payload.length ≤ 40) {status : Status} (hp : status.ofPort = true)
    (hr : readShoreRequest code target payload = .refused status) :
    Completes (.shoreFrameRefused (shoreFrame code target payload)) s fun t =>
      s.Refuses t payload.length status := by
  obtain ⟨hout, hphase, hbits⟩ := h
  have hnext : exec (.shoreFrameRefused (shoreFrame code target payload)) s =
      .next (s.shoreAnswer (payload.length + 4) true (refusal status)) := by
    refine (live_running hout _).trans ?_
    simp only [ShorePort.takes_ready hphase hbits, readShoreFrame_shoreFrame code target hn, hr, length_shoreFrame,
      if_true]
  refine ⟨_, hnext, s.onlyPort_shoreAnswer _ _ _, ?_⟩
  rw [State.Answers, hp]
  rfl

theorem onDevice_of_ne {target : Byte} (h : target ≠ 0) (i : Instr) : onDevice target i = .refused .badTarget :=
  if_neg h

/-- Settles O40: ATTN is read off the pending conditions by class, and SET_CLASS_MASK is one write of both masks. -/
theorem attnFollowsThePendingConditionsAndTheMask : Obligations.AttnFollowsThePendingConditionsAndTheMask := by
  intro s
  refine ⟨s.attnAsserted_iff, fun hu hr => ?_, ⟨_, rfl, State.attnAsserted_in_reset s.pending⟩, fun mask h => ?_⟩
  · refine State.attnAsserted_of_masked fun c => ?_
    cases c with
    | urgent => simp [State.unmasked, hu]
    | routine => simp [State.unmasked, hr]
  · exact ⟨setClassMask_completes h mask, fun target ht =>
      shoreFrameRefused_completes h (payload := [mask]) (by simp) rfl (onDevice_of_ne ht (.setClassMask mask))⟩

end Sys2Proof.Machine
end

section
/-! PROOF. What any command can do to a record, said once: a chain of the moves below. Every law of a record is then shown
of each move, and no proof about a law looks into a command. -/

namespace Sys2Proof.Machine

/-! ### The moves of a record -/

/-- One move of a drive channel whose line is in `state`. -/
inductive Drive.Move (state : LineState) (d : Drive) : Drive → Prop
  | stop : Drive.Move state d d.stop
  | place (n : Nat) (g : Segment) (h : state.undriven = false) : Drive.Move state d (d.place n g)
  | promote (n : Nat) (h : d.cur.isSome = true) : Drive.Move state d (d.promote n)
  | order (n : Nat) (p : ClampPosition) : Drive.Move state d (d.order n p)
  | confirm (p : ClampPosition) (h : d.confirms = some p) : Drive.Move state d (d.confirmed p)
  | reading (r : SwitchReading) : Drive.Move state d { d with reading := r }
  | rest (r : SwitchReading) (h : d.field.travelling = false) (hr : d.field ≠ .opened ∨ fieldOfReading r = .opened) :
      Drive.Move state d { d with reading := r, field := fieldOfReading r }
  | stopAtRest (r : SwitchReading) (h : d.field.travelling = false) :
      Drive.Move state d (Drive.stop { d with reading := r, field := fieldOfReading r })
  | leaveOpen (r : SwitchReading) (h : d.field.travelling = false) (hm : d.mode ≠ .running) :
      Drive.Move state d { d with reading := r, field := fieldOfReading r }
  | timeout (h : d.deadline.isSome = true) : Drive.Move state d { d with field := .unknown, deadline := none }
  | count (n : Nat) (dir : CountDir) : Drive.Move state d ((d.restartStall n).counted dir)
  | decode (v : EncoderLevels) : Drive.Move state d (d.decode v).1
  | homeCloses : Drive.Move state d { d with homeClosed := true, payout := some 0, overrun := 0 }
  | homeOpens : Drive.Move state d { d with homeClosed := false }

/-- The states that a line enters with no field of their own but the clear remembered of SLACK, and with its tags and band
as they stand. -/
def LineState.plain : LineState → Bool
  | .heave | .tended | .locking | .locked | .slack | .rewind => true
  | .stowed | .payout | .easing | .fault | .halted => false

/-- No level condition, and no dwell noted, that the record does not have. -/
def Station.NoNewLevel (c : Station) (m : Monitor) (a : StationAttn) : Prop :=
  (a.belowBand = true ∨ a.aboveBand = true ∨ m.belowDue = true ∨ m.aboveDue = true →
      c.attn.belowBand = true ∨ c.attn.aboveBand = true ∨ c.monitor.belowDue = true ∨ c.monitor.aboveDue = true) ∧
    (a.lockAlarm = true → c.attn.lockAlarm = true) ∧ (m.clearDue = true → c.monitor.clearDue = true)

/-- The samples and those kept aside stand, or are emptied; the status stands. -/
def Monitor.NoNewSample (m n : Monitor) : Prop :=
  n.failed = m.failed ∧ (n.samples = m.samples ∨ n.samples = []) ∧ (n.kept = m.kept ∨ n.kept = [])

/-- The default band of the settings. -/
def StationSettings.defaultBand (u : StationSettings) : Band := ⟨u.bandLow, u.bandHigh⟩

/-- One move of a record; `free` tells the fitting tags that no other record of its window carries. -/
inductive Station.Move (free : Byte → Prop) (c : Station) : Station → Prop
  | channel (m : Monitor) (a : StationAttn) (hm : c.monitor.NoNewSample m) (ha : c.NoNewLevel m a) :
      Station.Move free c { c with monitor := m, attn := a }
  | sample (edges : List Nat) : Station.Move free c (c.takeSample edges)
  | change (new : LineState) (hn : new.plain = true) (hc : c.state ≠ .stowed)
      (hh : new.unheld = true → c.state.unheld = true ∨ c.holds = []) : Station.Move free c (c.change new)
  | adopt (new : LineState) (vessel : Option Half) (a : Adoption) (hn : new.plain = true) (hc : c.state = .halted)
      (ht : a.tag.all tagInRange = true) (hb : a.band.all Band.valid = true) (hf : ∀ t, a.tag = some t → free t) :
      Station.Move free c ((c.adopted vessel a).change new)
  | fault (cause : FaultCause) (h : c.state ≠ .stowed ∨ c.easeTimer.isSome = true) :
      Station.Move free c (c.enterFault cause)
  | replaceCause (cause : FaultCause) :
      Station.Move free c { c with fault := c.fault.map fun (i : FaultInfo) => { i with cause := cause } }
  | retire (h : c.state.unheld = true ∨ c.holds = []) : Station.Move free c c.enterStowed
  | payOut (tag : Half) : Station.Move free c
      { c.change .payout with vesselTag := some tag, band := some c.settings.defaultBand }
  | ease (phase : EasingPhase) (hc : c.state ≠ .stowed) (hh : c.holds = []) : Station.Move free c
      { c.change .easing with easeTimer := some c.settings.easeLimit, easingPhase := some phase }
  | setPhase (phase : EasingPhase) (h : c.state = .easing) : Station.Move free c { c with easingPhase := some phase }
  | remember (h : c.state = .slack) : Station.Move free c { c with clearRemembered := some true }
  | creep (n : Nat) (h : c.state = .rewind) : Station.Move free c { c with creepSpent := some n }
  | drive (d : Drive) (h : Drive.Move c.state c.drive d) : Station.Move free c { c with drive := d }
  | hold (hs : List Hold)
      (h : hs = [] ∨ (∃ x, c.holds = x :: hs) ∨ (c.state.unheld = false ∧ hs.length ≤ 2)) :
      Station.Move free c { c with holds := hs }
  | mark (t : Byte) (hs : c.state ≠ .stowed) (hh : c.state ≠ .halted) (ht : tagInRange t = true) (hf : free t) :
      Station.Move free c { c with fittingTag := some t }
  | band (b : Band) (hs : c.state ≠ .stowed) (hb : b.valid = true) : Station.Move free c { c with band := some b }
  | settings (u : StationSettings) (h : c.settings.defaultBand.valid = true → u.defaultBand.valid = true) :
      Station.Move free c { c with settings := u }
  | book (rs : List LineReport) (n : Nat) : Station.Move free c { c with toSequencer := rs, releaseClaims := n }

/-- Steps of a relation, one after another. -/
inductive Steps {α : Type} (r : α → α → Prop) (a : α) : α → Prop
  | refl : Steps r a a
  | tail {b c : α} (h : Steps r a b) (m : r b c) : Steps r a c

theorem Steps.single {α : Type} {r : α → α → Prop} {a b : α} (m : r a b) : Steps r a b := .tail .refl m

theorem Steps.trans {α : Type} {r : α → α → Prop} {a b c : α} (h : Steps r a b) (k : Steps r b c) : Steps r a c := by
  induction k with
  | refl => exact h
  | tail _ m ih => exact ih.tail m

theorem Steps.mono {α : Type} {r q : α → α → Prop} (hm : ∀ a b, r a b → q a b) {a b : α} (h : Steps r a b) :
    Steps q a b := by
  induction h with
  | refl => exact .refl
  | tail _ m ih => exact ih.tail (hm _ _ m)

/-- Moves one after another. -/
def Station.Acts (free : Byte → Prop) (b c : Station) : Prop := Steps (Station.Move free) b c

/-- A property that every move keeps is kept by moves one after another. -/
theorem Station.Acts.keeps {free : Byte → Prop} {p : Station → Prop} {b c : Station} (h : b.Acts free c)
    (hp : ∀ c d, Station.Move free c d → p c → p d) (hb : p b) : p c := by
  induction h with
  | refl => exact hb
  | tail _ hm ih => exact hp _ _ hm ih

theorem Station.Acts.refl (free : Byte → Prop) (c : Station) : c.Acts free c := Steps.refl

section
variable {free : Byte → Prop} {b c : Station} (h : b.Acts free c)
include h

theorem Station.Acts.move {d : Station} (m : Station.Move free c d) : b.Acts free d := Steps.tail h m

/-! ### Moves of the channel, the attention set and the reports -/

theorem Station.Acts.monitor {m : Monitor} (hm : c.monitor.NoNewSample m) (ha : c.NoNewLevel m c.attn) :
    b.Acts free { c with monitor := m } := h.move (.channel m c.attn hm ha)

theorem Station.Acts.attn {a : StationAttn} (ha : c.NoNewLevel c.monitor a) : b.Acts free { c with attn := a } :=
  h.move (.channel c.monitor a ⟨rfl, .inl rfl, .inl rfl⟩ ha)

/-- A latch is no level (R166). -/
theorem Station.Acts.latch (k : StationCondition) (hk : k.isLatch = true) : b.Acts free (c.latch k) := by
  refine h.attn ?_
  cases k with
  | belowBand | aboveBand | lockAlarm => cases hk
  | stateReached | lockDropped | fault | holdFull | shipChange | stepLate => exact ⟨id, id, id⟩

theorem Station.Acts.withReports (rs : List LineReport) : b.Acts free { c with toSequencer := rs } :=
  h.move (.book rs c.releaseClaims)

theorem Station.Acts.withClaims (n : Nat) : b.Acts free { c with releaseClaims := n } := h.move (.book c.toSequencer n)

/-! ### Changes of state -/

theorem Station.Acts.change {new : LineState} (hn : new.plain = true) (hc : c.state ≠ .stowed)
    (hh : new.unheld = true → c.state.unheld = true ∨ c.holds = []) : b.Acts free (c.change new) :=
  h.move (.change new hn hc hh)

/-- A change to a state that may hold its line. -/
theorem Station.Acts.changeHeld {new : LineState} (hn : new.plain = true) (hu : new.unheld = false)
    (hc : c.state ≠ .stowed) : b.Acts free (c.change new) :=
  h.change hn hc fun e => absurd (hu.symm.trans e) (by decide)

theorem Station.Acts.enterFault (cause : FaultCause) (hc : c.state ≠ .stowed) : b.Acts free (c.enterFault cause) :=
  h.move (.fault cause (.inl hc))

theorem Station.Acts.enterStowed (hc : c.state.unheld = true) : b.Acts free c.enterStowed := h.move (.retire (.inl hc))

theorem Station.Acts.withDrive {d : Drive} (hd : Drive.Move c.state c.drive d) : b.Acts free { c with drive := d } :=
  h.move (.drive d hd)

/-! ### Segment ends (R86, R87, R93, R95) -/

theorem Station.Acts.takeHomeClosed : b.Acts free c.takeHomeClosed := by
  unfold Station.takeHomeClosed
  split
  · next hs => exact h.enterFault _ (by simp [hs])
  · next hs => exact (h.enterStowed (by rw [hs]; rfl)).latch _ rfl
  · exact h

theorem Station.Acts.takeConditionEnd (g : Segment) : b.Acts free (c.takeConditionEnd g) := by
  unfold Station.takeConditionEnd
  split
  · exact h.latch _ rfl
  · next hs =>
    split
    · exact h
    · exact (h.changeHeld rfl rfl (by simp [hs])).latch _ rfl
  · next hs => exact (h.change rfl (by simp [hs]) fun _ => .inl (by rw [hs]; rfl)).latch _ rfl
  · next hs => exact (h.enterStowed (by rw [hs]; rfl)).latch _ rfl
  · exact h

theorem Station.Acts.takeStall : b.Acts free c.takeStall := by
  unfold Station.takeStall
  split
  iterate 3 next hs => exact h.enterFault _ (by simp [hs])
  exact h

theorem Station.Acts.endSegment (cause : EndCause) : b.Acts free (c.endSegment cause) := by
  unfold Station.endSegment
  split
  · exact h
  · next g hg =>
    have promoted : b.Acts free { c with drive := c.drive.promote c.settings.stallTime } :=
      h.withDrive (.promote _ (by simp [hg]))
    have stopped : b.Acts free { c with drive := c.drive.stop } := h.withDrive .stop
    cases cause with
    | endCondition => exact promoted.takeConditionEnd g
    | duration => exact promoted
    | stall => exact stopped.takeStall
    | homeLimit => exact stopped.takeHomeClosed

omit h in
theorem Station.Acts.runEnds (n : Nat) {c : Station} (h : b.Acts free c) : b.Acts free (Station.runEnds n c) := by
  induction n generalizing c with
  | zero => exact h
  | succ n ih =>
    unfold Station.runEnds
    split
    · exact h
    · split
      · exact ih (h.endSegment _).takeHomeClosed
      · split
        · exact ih (h.endSegment _)
        · exact h

theorem Station.Acts.settleEnds : b.Acts free c.settleEnds := h.runEnds 3

theorem Station.Acts.testCurrent (kind : EndCondition → Bool) : b.Acts free (c.testCurrent kind) := by
  unfold Station.testCurrent
  split
  · exact h
  · split
    · exact (h.endSegment _).settleEnds
    · exact h

/-! ### Segments written (R85) -/

theorem Station.Acts.write (g : Segment) (hs : c.state.undriven = false) : b.Acts free (c.write g) := by
  have placed : b.Acts free { c with drive := c.drive.place c.settings.stallTime g } := h.withDrive (.place _ g hs)
  unfold Station.write
  dsimp only
  split
  · exact placed
  · exact placed.settleEnds

theorem Station.Acts.takeZero : b.Acts free c.takeZero := by
  unfold Station.takeZero
  split
  · next hs => exact h.enterFault _ (by simp [hs])
  · next hs =>
    split
    · exact h.enterFault _ (by simp [hs])
    · have stopped : b.Acts free { c with drive := c.drive.stop } := h.withDrive .stop
      exact (stopped.move (.creep _ hs)).write _ (by simp [hs, LineState.undriven])
  · exact h

theorem Station.Acts.zeroAtEntry : b.Acts free c.zeroAtEntry := by
  unfold Station.zeroAtEntry
  split
  · exact h.takeZero
  · exact h

theorem Station.Acts.enterPayout (tag : Half) (target : Nat) : b.Acts free (c.enterPayout tag target) :=
  (h.move (.payOut tag)).write _ rfl

theorem Station.Acts.enterHeave (hc : c.state ≠ .stowed) : b.Acts free c.enterHeave := by
  have changed : b.Acts free (c.change .heave) := h.changeHeld rfl rfl hc
  have placed := changed.withDrive (.place c.settings.stallTime (c.change .heave).firstTakeUp rfl)
  exact ((placed.withDrive (.place c.settings.stallTime (c.change .heave).secondTakeUp rfl)).zeroAtEntry).settleEnds

theorem Station.Acts.startRewind (hs : c.state.undriven = false) : b.Acts free c.startRewind := (h.write _ hs).zeroAtEntry

theorem Station.Acts.enterRewind (hc : c.state ≠ .stowed) (hh : c.state.unheld = true ∨ c.holds = []) :
    b.Acts free c.enterRewind := (h.change rfl hc fun _ => hh).startRewind rfl

theorem Station.Acts.startRendering (hs : c.state = .easing) : b.Acts free c.startRendering :=
  (h.move (.setPhase .rendering hs)).write _ (by simp [hs, LineState.undriven])

/-- A line is taken as cleared in SLACK (R52, R53). -/
theorem Station.Acts.takeClear (hs : c.state = .slack) : b.Acts free c.takeClear := by
  unfold Station.takeClear
  split
  · exact h.enterRewind (by simp [hs]) (.inl (by rw [hs]; rfl))
  · exact h.move (.remember hs)

/-! ### Clamp orders and clamp reports (R96 to R100) -/

theorem Station.Acts.takeConfirm (p : ClampPosition) : b.Acts free (c.takeConfirm p) := by
  unfold Station.takeConfirm
  split
  · next hs => exact (h.changeHeld rfl rfl (by simp [hs])).latch _ rfl
  · next hs =>
    split
    · exact h.startRendering hs
    · exact h
  · next hs =>
    split
    · exact h.enterRewind (by simp [hs]) (.inl (by rw [hs]; rfl))
    · exact h
  · exact h

theorem Station.Acts.confirmIfThere : b.Acts free c.confirmIfThere := by
  unfold Station.confirmIfThere
  split
  · next p hp => exact (h.withDrive (.confirm p hp)).takeConfirm p
  · exact h

theorem Station.Acts.orderClamp (p : ClampPosition) : b.Acts free (c.orderClamp p) :=
  (h.withDrive (.order _ p)).confirmIfThere

theorem Station.Acts.takeTimeout : b.Acts free c.takeTimeout := by
  unfold Station.takeTimeout
  split
  iterate 4 next hs => exact h.enterFault _ (by simp [hs])
  · exact (h.move (.replaceCause .clamp)).latch _ rfl
  · exact h

theorem Station.Acts.takeLeftOpen : b.Acts free c.takeLeftOpen := by
  unfold Station.takeLeftOpen
  split
  iterate 5 next hs => exact h.enterFault _ (by simp [hs])
  · next hs =>
    split
    · exact h.enterFault _ (by simp [hs])
    · exact h
  · exact h

theorem Station.Acts.readSwitches (r : SwitchReading) : b.Acts free (c.readSwitches r) := by
  unfold Station.readSwitches
  dsimp only
  split
  · exact (h.withDrive (.reading r)).confirmIfThere
  · next ht =>
    have ht : c.drive.field.travelling = false := by simpa using ht
    split
    · refine Station.Acts.takeLeftOpen ?_
      split
      · exact h.withDrive (.stopAtRest r ht)
      · next hm => exact h.withDrive (.leaveOpen r ht hm)
    · next hl =>
      have hstays : c.drive.field ≠ .opened ∨ fieldOfReading r = .opened := by
        by_cases hr : fieldOfReading r = .opened
        · exact .inr hr
        · exact .inl fun ho => hl ⟨ho, hr⟩
      exact h.withDrive (.rest r ht hstays)

/-! ### Entries that order the clamp -/

theorem Station.Acts.enterLocking (hc : c.state ≠ .stowed) : b.Acts free c.enterLocking :=
  (h.changeHeld rfl rfl hc).orderClamp _

theorem Station.Acts.enterTendedOpening (hc : c.state ≠ .stowed) : b.Acts free c.enterTendedOpening :=
  (h.changeHeld rfl rfl hc).orderClamp _

theorem Station.Acts.enterLockedClosing (hc : c.state ≠ .stowed) : b.Acts free c.enterLockedClosing :=
  (h.changeHeld rfl rfl hc).orderClamp _

theorem Station.Acts.enterSlackOpening (hc : c.state ≠ .stowed) (hh : c.holds = []) : b.Acts free c.enterSlackOpening :=
  (h.change rfl hc fun _ => .inr hh).orderClamp _

omit h in
/-- A clamp ordered OPEN that is OPEN takes the command alone. -/
theorem Station.orderClamp_opened_of_open {c : Station} (hf : c.drive.field = .opened) :
    c.orderClamp .opened = { c with drive := { c.drive with command := some .opened } } := by
  have horder := c.drive.order_open c.settings.travelLimit (.inl hf)
  unfold Station.orderClamp
  rw [horder]
  exact Station.confirmIfThere_of_none (by simp [Drive.confirms, hf, ClampPosition.travel])

omit h in
@[simp] theorem Station.field_change (c : Station) (new : LineState) : (c.change new).drive.field = c.drive.field :=
  (c.keepsGround_change new).2.1.2.1

theorem Station.Acts.enterEasing (hc : c.state ≠ .stowed) (hh : c.holds = []) : b.Acts free c.enterEasing := by
  have eased (phase : EasingPhase) := h.move (.ease phase hc hh)
  unfold Station.enterEasing
  dsimp only
  split
  · next hf =>
    refine ((eased .rendering).orderClamp .opened).startRendering ?_
    rw [Station.orderClamp_opened_of_open]
    · rfl
    · exact (Station.field_change c .easing).trans hf
  · exact eased .opening
  all_goals exact (eased .opening).orderClamp .opened

omit h in
/-- A clamp order leaves REWIND as it is. -/
theorem Station.state_orderClamp_of_rewind {c : Station} (hs : c.state = .rewind) (p : ClampPosition) :
    (c.orderClamp p).state = .rewind := by
  unfold Station.orderClamp Station.confirmIfThere
  split
  · next q hq => simp [Station.takeConfirm, hs]
  · exact hs

theorem Station.Acts.enterRewindOpening (hc : c.state ≠ .stowed) (hh : c.holds = []) :
    b.Acts free c.enterRewindOpening := by
  have ordered : b.Acts free ((c.change .rewind).orderClamp .opened) := (h.change rfl hc fun _ => .inr hh).orderClamp _
  exact ordered.startRewind (by rw [Station.state_orderClamp_of_rewind rfl]; rfl)

/-! ### Reports of a Tension Monitor channel -/

theorem Station.Acts.takeSensorFailed : b.Acts free c.takeSensorFailed := by
  unfold Station.takeSensorFailed
  split
  · next hs =>
    refine h.enterFault _ fun e => ?_
    rw [e] at hs
    cases hs
  · exact h.monitor ⟨rfl, .inl rfl, .inl rfl⟩ ⟨id, id, id⟩

theorem Station.Acts.takeLockTrip : b.Acts free c.takeLockTrip := by
  unfold Station.takeLockTrip
  split
  · next hs => exact (h.enterTendedOpening (by simp [hs])).latch _ rfl
  · next hs =>
    split
    · exact h.enterFault _ (by simp [hs])
    · exact (h.enterTendedOpening (by simp [hs])).latch _ rfl
  · exact h

theorem Station.Acts.takeMonitorReport (r : MonitorReport) : b.Acts free (c.takeMonitorReport r) := by
  unfold Station.takeMonitorReport
  split
  · exact h.takeSensorFailed
  · exact h
  · split
    · next hs =>
      refine h.enterFault _ fun e => ?_
      rw [e] at hs
      cases hs
    · exact h
  · exact h.takeLockTrip
  · split
    · next hs => exact h.write _ (by simp [hs, LineState.undriven])
    · exact h

omit h in
theorem Station.Acts.takeReports (p : MonitorReport → Bool) (rs : List MonitorReport) {c : Station}
    (h : b.Acts free c) : b.Acts free (Station.takeReports p rs c) := by
  induction rs generalizing c with
  | nil => exact h
  | cons r rest ih =>
    have taken : b.Acts free { c with monitor := { c.monitor with reports := rest } } :=
      h.monitor ⟨rfl, .inl rfl, .inl rfl⟩ ⟨id, id, id⟩
    unfold Station.takeReports
    dsimp only
    split
    · exact taken.takeMonitorReport r
    · exact ih (taken.takeMonitorReport r)

theorem Station.Acts.takeReport (p : MonitorReport → Bool) : b.Acts free (c.takeReport p) := by
  unfold Station.takeReport
  split
  · exact h.takeReports p _
  · exact h

/-- The condition that becomes pending was noted as a dwell reached. -/
theorem Station.Acts.takeBandDwell (side : BandSide) : b.Acts free (c.takeBandDwell side) := by
  unfold Station.takeBandDwell
  split
  · split
    · next hd => exact h.move (.channel _ _ ⟨rfl, .inl rfl, .inl rfl⟩ ⟨fun _ => .inr (.inr (.inl hd)), id, id⟩)
    · exact h
  · split
    · next hd => exact h.move (.channel _ _ ⟨rfl, .inl rfl, .inl rfl⟩ ⟨fun _ => .inr (.inr (.inr hd)), id, id⟩)
    · exact h

theorem Station.Acts.takeAutoClear : b.Acts free c.takeAutoClear := by
  unfold Station.takeAutoClear
  split
  · next hs =>
    have taken : b.Acts free { c with monitor := { c.monitor with clearDue := false } } :=
      h.monitor ⟨rfl, .inl rfl, .inl rfl⟩ ⟨id, id, nofun⟩
    exact taken.takeClear hs.2
  · exact h

/-! ### Encoder, home switch, clamp switches and timers -/

theorem Station.Acts.takeCount (dir : CountDir) : b.Acts free (c.takeCount dir) := by
  have counted : b.Acts free { c with drive := (c.drive.restartStall c.settings.stallTime).counted dir } :=
    h.withDrive (.count _ dir)
  unfold Station.takeCount
  dsimp only
  split
  · exact (counted.testCurrent _).takeZero
  · exact counted.testCurrent _

theorem Station.Acts.takeLevels (v : EncoderLevels) : b.Acts free (c.takeLevels v) := by
  have decoded : b.Acts free { c with drive := (c.drive.decode v).1 } := h.withDrive (.decode v)
  unfold Station.takeLevels
  dsimp only
  split
  · exact decoded.takeCount _
  · exact decoded

omit h in
theorem Station.Acts.foldl_takeLevels (levels : List EncoderLevels) {c : Station} (h : b.Acts free c) :
    b.Acts free (levels.foldl Station.takeLevels c) := by
  induction levels generalizing c with
  | nil => exact h
  | cons v rest ih => exact ih (h.takeLevels v)

theorem Station.Acts.spendMargin : b.Acts free c.spendMargin := by
  unfold Station.spendMargin
  split
  · next hs => exact h.enterFault _ (by simp [hs.1])
  · exact h

theorem Station.Acts.endAtHome : b.Acts free c.endAtHome := by
  unfold Station.endAtHome
  split
  · exact h
  · split
    · exact h.settleEnds
    · exact h.testCurrent _

theorem Station.Acts.homeCloses : b.Acts free c.homeCloses := by
  unfold Station.homeCloses
  split
  · exact h
  · exact (h.withDrive .homeCloses).endAtHome.takeHomeClosed

theorem Station.Acts.expireDuration :
    b.Acts free (if c.drive.durTimer.isSome then (c.endSegment .duration).settleEnds else c) := by
  split
  · exact (h.endSegment _).settleEnds
  · exact h

theorem Station.Acts.expireStall : b.Acts free (if c.drive.stallTimer.isSome then c.endSegment .stall else c) := by
  split
  · exact h.endSegment _
  · exact h

theorem Station.Acts.clampTimeout : b.Acts free (if c.drive.deadline.isSome then
    ({ c with drive := { c.drive with field := .unknown, deadline := none } }).takeTimeout else c) := by
  split
  · next hd => exact (h.withDrive (.timeout hd)).takeTimeout
  · exact h

theorem Station.Acts.expireEaseLimit : b.Acts free (if c.easeTimer.isSome then c.enterFault .easeLimit else c) := by
  split
  · next ht => exact h.move (.fault _ (.inr ht))
  · exact h

/-! ### Claims of the sequencer and of an emergency -/

omit h in
theorem Station.startable_iff {c : Station} :
    c.startable = true ↔ (c.state = .tended ∨ c.state = .locked) ∧ c.holds = [] := by
  simp [Station.startable]

omit h in
theorem Station.cancellable_iff {c : Station} :
    c.cancellable = true ↔ c.state = .payout ∧ c.fittingTag = none ∧ c.holds = [] := by
  simp [Station.cancellable, and_assoc]

theorem Station.Acts.takeStart : b.Acts free c.takeStart := by
  unfold Station.takeStart
  split
  · next hs =>
    obtain ⟨hs, hh⟩ := Station.startable_iff.mp hs
    exact h.enterEasing (by rcases hs with hs | hs <;> simp [hs]) hh
  · exact h

theorem Station.Acts.takeWalk : b.Acts free c.takeWalk := by
  have started := h.takeStart
  unfold Station.takeStart at started
  unfold Station.takeWalk
  split
  · next hs => simpa [hs] using started
  · split
    · next hs =>
      obtain ⟨hs, -, hh⟩ := Station.cancellable_iff.mp hs
      exact h.enterRewind (by simp [hs]) (.inr hh)
    · exact h

theorem Station.Acts.takeReturn : b.Acts free c.takeReturn := by
  unfold Station.takeReturn
  split
  · next hs => exact h.changeHeld rfl rfl (by simp [hs])
  · exact h

theorem Station.Acts.takeRelease : b.Acts free c.takeRelease := by
  have emptied : b.Acts free { c with holds := [] } := h.move (.hold [] (.inl rfl))
  unfold Station.takeRelease
  split
  iterate 3 exact h
  all_goals next hs => exact emptied.enterSlackOpening (by simp [hs]) rfl

theorem Station.Acts.releaseClaim : b.Acts free (if c.releaseClaims = 0 then c
    else { c with releaseClaims := c.releaseClaims - 1 }.takeRelease) := by
  split
  · exact h
  · exact (h.withClaims _).takeRelease

/-! ### Requests on a line -/

theorem Station.Acts.pushHold (hold : Hold) : b.Acts free (c.pushHold hold).1 := by
  have accepted (hs : c.state ≠ .stowed) (hu : c.state ≠ .slack ∧ c.state ≠ .rewind ∧ c.state ≠ .halted)
      (hl : ¬Config.holdDepth ≤ c.holds.length) : b.Acts free (c.acceptHold hold).1 := by
    have hdepth : Config.holdDepth = 2 := rfl
    have hl : (hold :: c.holds).length ≤ 2 := by
      rw [List.length_cons]
      omega
    unfold Station.acceptHold
    dsimp only
    split
    · next he => exact (h.changeHeld (new := .tended) rfl rfl hs).move (.hold _ (.inr (.inr ⟨rfl, hl⟩)))
    · next he =>
      refine h.move (.hold _ (.inr (.inr ⟨?_, hl⟩)))
      cases hst : c.state <;> simp_all [LineState.unheld]
  unfold Station.pushHold
  split
  iterate 4 exact h
  all_goals
    next hs =>
      split
      · exact h.latch _ rfl
      · next hl => exact accepted (by simp [hs]) (by simp [hs]) hl

theorem Station.Acts.popHold (holder : Holder) : b.Acts free (c.popHold holder).1 := by
  unfold Station.popHold
  split
  · exact h
  · next top rest ht =>
    split
    · exact (h.move (.hold rest (.inr (.inl ⟨top, ht⟩)))).withReports _
    · exact h

theorem Station.Acts.putBand {x : Band} (hs : c.state ≠ .stowed) (hb : x.valid = true) : b.Acts free (c.putBand x) :=
  (h.move (.band x hs hb)).monitor ⟨rfl, .inl rfl, .inl rfl⟩ ⟨id, id, id⟩

omit h in
theorem LineState.ne_stowed_of_takesBand {state : LineState} (h : ¬state.takesBand = false) : state ≠ .stowed := by
  rintro rfl
  exact h rfl

theorem Station.Acts.setBand (x : Band) : b.Acts free (c.setBand x).1 := by
  unfold Station.setBand
  split
  · exact h
  · next hs =>
    split
    · exact h
    · next hb => exact h.putBand (LineState.ne_stowed_of_takesBand hs) (by simpa using hb)

theorem Station.Acts.requestBand (u : FaceSettings) (low high : Nat) : b.Acts free (c.requestBand u low high).1 := by
  unfold Station.requestBand
  dsimp only
  split
  · exact h
  · next hs =>
    split
    · exact h
    · next hb => exact h.putBand (LineState.ne_stowed_of_takesBand hs) (by simpa using hb)

theorem Station.Acts.markAttached (holder : Holder) (tag : Byte) (taken : Bool) (hf : taken = false → free tag) :
    b.Acts free (c.markAttached holder tag taken).1 := by
  unfold Station.markAttached
  split
  · exact h
  · next hs =>
    split
    · exact h
    · next ht =>
      split
      · exact h
      · next hf' =>
        refine h.move (.mark tag ?_ ?_ (by simpa using ht) (hf (by simpa using hf')))
        all_goals
          intro e
          rw [e] at hs
          cases holder <;> exact hs rfl

/-- A refusal leaves the record, and what is done otherwise is moves. -/
theorem Station.Acts.unless {p : Prop} [Decidable p] {a : Answer} {r : Station × Answer} (hr : b.Acts free r.1) :
    b.Acts free (if p then (c, a) else r).1 := by
  split
  · exact h
  · exact hr

theorem Station.Acts.payoutFromStowed (x : Option FaceState) (target : Nat) :
    b.Acts free (c.payoutFromStowed x target).1 := by
  unfold Station.payoutFromStowed
  split
  · exact h
  · split
    · exact h
    · exact h.unless (h.unless (h.unless (h.unless ((h.withClaims 0).enterPayout _ _))))

theorem Station.Acts.extendPayout (target : Nat) (hs : c.state = .payout) : b.Acts free (c.extendPayout target).1 := by
  unfold Station.extendPayout
  split
  · exact h
  · exact (h.withDrive .stop).write _ (by simp [hs, LineState.undriven])

theorem Station.Acts.takeUp : b.Acts free c.takeUp.1 := by
  unfold Station.takeUp
  split
  · exact h
  · next hs =>
    split
    · exact h
    · exact h.enterHeave fun e => hs (.inl (by simp [e]))

theorem Station.Acts.lock : b.Acts free c.lock.1 := by
  unfold Station.lock
  split
  · next hs => exact h.enterLocking (by simp [hs])
  · exact h

theorem Station.Acts.unlock : b.Acts free c.unlock.1 := by
  unfold Station.unlock
  split
  · next hs => exact h.enterTendedOpening (by rcases hs with hs | hs <;> simp [hs])
  · exact h

theorem Station.Acts.release (inPlan : Bool) : b.Acts free (c.release inPlan).1 := by
  unfold Station.release
  split
  · exact h
  · next hs =>
    have hs : c.state ≠ .stowed := fun e => hs (by simp [e])
    split
    · exact h
    · split
      · exact h
      · next hh =>
        have hh : c.holds = [] := by simpa using hh
        split
        · split
          · exact h
          · exact (h.change rfl hs fun _ => .inr hh).latch _ rfl
        · exact h.enterEasing hs hh

theorem Station.Acts.cancel : b.Acts free c.cancel.1 := by
  unfold Station.cancel
  split
  · exact h
  · next hs =>
    split
    · exact h
    · next hh => exact h.enterRewind (fun e => hs (.inl (by simp [e]))) (.inr (by simpa using hh))

theorem Station.Acts.markClear : b.Acts free c.markClear.1 := by
  unfold Station.markClear
  split
  · next hs => exact h.takeClear hs
  · exact h

theorem Station.Acts.shipChanged (a : Answer) : b.Acts free (c.shipChanged a) := by
  unfold Station.shipChanged
  split
  · exact h.latch _ rfl
  · exact h

/-! ### CLEAR_FAULT and ADOPT (R152 to R156, R160 to R164) -/

theorem Station.Acts.clearFaultTo (target : LineState) (granted : Bool) (hc : c.state ≠ .stowed) :
    b.Acts free (c.clearFaultTo target granted).1 := by
  unfold Station.clearFaultTo
  split
  · split
    · exact h
    · split
      · exact h
      · exact h.enterTendedOpening hc
  · split
    · exact h
    · exact h.enterLockedClosing hc
  · split
    · exact h
    · next hh => exact h.enterSlackOpening hc (by simpa using hh)
  · split
    · exact h
    · split
      · exact h
      · next hh =>
        split
        · exact h
        · exact h.enterRewindOpening hc (by simpa using hh)
  · exact h

omit h in
/-- The operands of an ADOPT that pass its checks (R160). -/
theorem adoption_eq_some {presence tag : Byte} {low high : Half} {a : Adoption}
    (ha : adoption presence tag low high = some a) : a.tag.all tagInRange = true ∧ a.band.all Band.valid = true := by
  unfold adoption at ha
  rw [Option.ite_none_right_eq_some] at ha
  obtain ⟨hok, ha⟩ := ha
  exact Option.some.inj ha ▸ hok.2

theorem Station.Acts.adoptTo (target : LineState) {a : Adoption} (tag : Option Half) (dup : Bool)
    (hc : c.state = .halted) (ht : a.tag.all tagInRange = true) (hb : a.band.all Band.valid = true)
    (hf : dup = false → ∀ t, a.tag = some t → free t) : b.Acts free (c.adoptTo target a tag dup).1 := by
  have adopted (new : LineState) (hn : new.plain = true) (hd : ¬dup = true) :
      b.Acts free ((c.adopted tag a).change new) :=
    h.move (.adopt new tag a hn hc ht hb (hf (by simpa using hd)))
  unfold Station.adoptTo
  split
  · split
    · exact h
    · split
      · exact h
      · exact (h.enterStowed (by rw [hc]; rfl)).orderClamp _
  · split
    · exact h
    · split
      · exact h
      · next hd => exact (adopted _ rfl hd).orderClamp _
  · split
    · exact h
    · split
      · exact h
      · split
        · exact h
        · next hd => exact (adopted _ rfl hd).orderClamp _
  · split
    · exact h
    · split
      · exact h
      · next hd => exact (adopted _ rfl hd).orderClamp _
  · exact h

/-! ### Settings and acknowledgement -/

omit h in
/-- The test of a band (R5). -/
theorem Band.valid_iff (x : Band) : x.valid = true ↔ 0 < x.low ∧ x.low + 50 ≤ x.high ∧ x.high ≤ 10000 := by
  simp only [Band.valid, Bool.and_eq_true, decide_eq_true_eq, and_assoc]
  rfl

omit h in
/-- An accepted value of the default band keeps the band test (R5, R181). -/
theorem Station.defaultBand_put {c : Station} {k : StationItem} {v : Nat} (hr : c.settingRefusal k v = none)
    (hd : c.settings.defaultBand.valid = true) : (c.settings.put k v).defaultBand.valid = true := by
  unfold Station.settingRefusal at hr
  split at hr
  · cases hr
  · next hrange =>
    split at hr
    · cases hr
    · split at hr
      · cases hr
      · next hpair =>
        cases k
        case bandLow | bandHigh =>
          simp only [inRange, Bool.not_eq_false, Bool.and_eq_true, decide_eq_true_eq, StationSettings.pairOk,
            Band.valid_iff] at hrange hpair hd ⊢
          simp only [StationItem.range, StationSettings.put, StationSettings.defaultBand, Config.bandGap] at hrange hpair hd ⊢
          omega
        all_goals exact hd

theorem Station.Acts.putSetting (k : StationItem) (v : Nat) (hr : c.settingRefusal k v = none) :
    b.Acts free (c.putSetting k v) := by
  have put : b.Acts free { c with settings := c.settings.put k v } :=
    h.move (.settings _ (Station.defaultBand_put hr))
  unfold Station.putSetting
  split
  · exact h
  · dsimp only
    split
    · refine put.monitor ⟨rfl, .inr rfl, ?_⟩ ⟨id, id, id⟩
      dsimp only
      split
      · exact .inr rfl
      · exact .inl rfl
    · exact put

omit h in
/-- An acknowledgement leaves the levels (R173). -/
theorem StationAttn.levels_acknowledge (a : StationAttn) (named : List StationCondition) :
    (a.acknowledge named).belowBand = a.belowBand ∧ (a.acknowledge named).aboveBand = a.aboveBand ∧
      (a.acknowledge named).lockAlarm = a.lockAlarm := by
  unfold StationAttn.acknowledge
  induction named generalizing a with
  | nil => exact ⟨rfl, rfl, rfl⟩
  | cons k rest ih =>
    rw [List.foldl_cons]
    obtain ⟨h1, h2, h3⟩ := ih (if k.isLatch then a.put k false else a)
    rw [h1, h2, h3]
    cases k <;> exact ⟨rfl, rfl, rfl⟩

theorem Station.Acts.acknowledge (named : List StationCondition) :
    b.Acts free { c with attn := c.attn.acknowledge named } := by
  obtain ⟨h1, h2, h3⟩ := c.attn.levels_acknowledge named
  exact h.attn ⟨by rw [h1, h2]; exact id, by rw [h3]; exact id, id⟩

end

end Sys2Proof.Machine
end

section
/-! PROOF. The laws of one record, each shown of every move of a record. -/

namespace Sys2Proof.Machine

variable {free : Byte → Prop} {c d : Station}

/-! ### A sample, said once: what it leaves of the list, and what it makes of the levels -/

theorem Station.holds_takeSample (c : Station) (edges : List Nat) : (c.takeSample edges).holds = c.holds := by
  rw [c.onlyChannel_takeSample edges]

theorem Station.state_takeSample (c : Station) (edges : List Nat) : (c.takeSample edges).state = c.state := by
  rw [c.onlyChannel_takeSample edges]

/-- The list, the samples kept aside, the status and the invalid run are the same. -/
def Monitor.SameSamples (m n : Monitor) : Prop :=
  n.samples = m.samples ∧ n.kept = m.kept ∧ n.failed = m.failed ∧ n.invalidRun = m.invalidRun

theorem Monitor.SameSamples.refl (m : Monitor) : m.SameSamples m := ⟨rfl, rfl, rfl, rfl⟩

theorem Monitor.SameSamples.trans {l m n : Monitor} (h : l.SameSamples m) (k : m.SameSamples n) : l.SameSamples n := by
  obtain ⟨h1, h2, h3, h4⟩ := h
  obtain ⟨k1, k2, k3, k4⟩ := k
  exact ⟨k1.trans h1, k2.trans h2, k3.trans h3, k4.trans h4⟩

theorem Monitor.sameSamples_repeatFailure (m before : Monitor) (state : LineState) :
    m.SameSamples (m.repeatFailure before state) := by
  unfold Monitor.repeatFailure
  split <;> exact Monitor.SameSamples.refl m

theorem Station.sameSamples_compareBand (c : Station) : c.monitor.SameSamples c.compareBand.monitor := by
  unfold Station.compareBand
  dsimp only
  split
  · split
    · exact Monitor.SameSamples.refl _
    · split <;> exact Monitor.SameSamples.refl _
  · exact Monitor.SameSamples.refl _

theorem Station.sameSamples_compareParted (c : Station) : c.monitor.SameSamples c.compareParted.monitor := by
  unfold Station.compareParted
  split <;> exact Monitor.SameSamples.refl _

theorem Station.sameSamples_compareLock (c : Station) : c.monitor.SameSamples c.compareLock.monitor := by
  unfold Station.compareLock
  split <;> exact Monitor.SameSamples.refl _

theorem Station.sameSamples_compareClear (c : Station) : c.monitor.SameSamples c.compareClear.monitor := by
  unfold Station.compareClear
  split <;> exact Monitor.SameSamples.refl _

theorem Station.sameSamples_askCorrection (c : Station) (partedNow : Bool) :
    c.monitor.SameSamples (c.askCorrection partedNow).monitor := by
  unfold Station.askCorrection
  dsimp only
  split
  · split
    · exact Monitor.SameSamples.refl _
    · split <;> exact Monitor.SameSamples.refl _
  · exact Monitor.SameSamples.refl _

/-- What a sample makes of the list is what its taking in makes of it: the comparisons leave it (R64 to R66, R68). -/
theorem Station.sameSamples_takeSample (c : Station) (edges : List Nat) :
    (c.monitor.absorb c.settings.invalidLimit (sampleOf c.settings edges)).SameSamples
      (c.takeSample edges).monitor := by
  unfold Station.takeSample
  refine (Monitor.sameSamples_repeatFailure _ c.monitor c.state).trans ?_
  refine .trans ?_ (Station.sameSamples_askCorrection _ _)
  refine .trans ?_ (Station.sameSamples_compareClear _)
  refine .trans ?_ (Station.sameSamples_compareLock _)
  refine .trans ?_ (Station.sameSamples_compareParted _)
  exact .trans (m := Station.monitor (Station.compareBand _)) (Station.sameSamples_compareBand _) ⟨rfl, rfl, rfl, rfl⟩

/-! ### The hold stack (R13) -/

theorem Station.HoldLaw.of_same (h : c.HoldLaw) (hs : d.state = c.state) (hh : d.holds = c.holds) : d.HoldLaw := by
  unfold Station.HoldLaw
  rw [hs, hh]
  exact h

theorem Station.HoldLaw.move (h : c.HoldLaw) (m : Station.Move free c d) : d.HoldLaw := by
  obtain ⟨hlen, hnone⟩ := h
  cases m with
  | channel | replaceCause | setPhase | remember | creep | drive | mark | band | settings | book => exact ⟨hlen, hnone⟩
  | sample edges =>
    exact Station.HoldLaw.of_same ⟨hlen, hnone⟩ (c.state_takeSample edges) (c.holds_takeSample edges)
  | change new hn hc hh => exact ⟨hlen, fun e => (hh e).elim hnone id⟩
  | adopt new vessel a hn hc ht hb hf => exact ⟨hlen, fun _ => hnone (by rw [hc]; rfl)⟩
  | fault cause hc => exact ⟨hlen, fun e => absurd e Bool.false_ne_true⟩
  | retire hu => exact ⟨hlen, fun _ => hu.elim hnone id⟩
  | payOut tag => exact ⟨hlen, fun e => absurd e Bool.false_ne_true⟩
  | ease phase hc hh => exact ⟨hlen, fun _ => hh⟩
  | hold hs hk =>
    rcases hk with rfl | ⟨x, hx⟩ | ⟨hu, hl⟩
    · exact ⟨Nat.zero_le _, fun _ => rfl⟩
    · rw [hx] at hlen hnone
      exact ⟨Nat.le_of_succ_le hlen, fun e => absurd (hnone e) (List.cons_ne_nil x hs)⟩
    · exact ⟨hl, fun e => absurd (hu.symm.trans e) (by decide)⟩

/-! ### Optional fields (R7, R45, R56) -/

theorem Station.fieldLaw_change (c : Station) {new : LineState} (hn : new ≠ .fault) (he : new ≠ .easing) :
    (c.change new).FieldLaw := by
  by_cases hs : new = .slack <;> simp [Station.FieldLaw, Station.change, hn, he, hs]

theorem LineState.plain_ne {new : LineState} (hn : new.plain = true) :
    new ≠ .stowed ∧ new ≠ .payout ∧ new ≠ .easing ∧ new ≠ .fault ∧ new ≠ .halted := by
  refine ⟨?_, ?_, ?_, ?_, ?_⟩ <;> rintro rfl <;> cases hn

theorem Station.FieldLaw.move (h : c.FieldLaw) (m : Station.Move free c d) : d.FieldLaw := by
  have same := h
  obtain ⟨hfault, hclear, hphase, htimer, hcreep⟩ := h
  cases m with
  | channel | drive | hold | mark | band | settings | book => exact same
  | sample edges =>
    rw [c.onlyChannel_takeSample edges]
    exact same
  | change new hn => exact c.fieldLaw_change (LineState.plain_ne hn).2.2.2.1 (LineState.plain_ne hn).2.2.1
  | adopt new vessel a hn =>
    exact Station.fieldLaw_change _ (LineState.plain_ne hn).2.2.2.1 (LineState.plain_ne hn).2.2.1
  | fault cause hc => simp [Station.FieldLaw, Station.enterFault, Station.latch, Station.change]
  | replaceCause cause => exact ⟨by simpa using hfault, hclear, hphase, htimer, hcreep⟩
  | retire hu => exact c.fieldLaw_change (new := .stowed) nofun nofun
  | payOut tag => exact c.fieldLaw_change (new := .payout) nofun nofun
  | ease phase hc hh => simp [Station.FieldLaw, Station.change]
  | setPhase phase hs => exact ⟨hfault, hclear, by simpa using hs, htimer, hcreep⟩
  | remember hs => exact ⟨hfault, by simpa using hs, hphase, htimer, hcreep⟩
  | creep n hs => exact ⟨hfault, hclear, hphase, htimer, fun _ => hs⟩

/-! ### Samples (R63 to R66) -/

/-- The sample law of a channel. -/
def Monitor.SampleLaw (m : Monitor) : Prop :=
  m.samples.length ≤ 4 ∧ m.kept.length < 4 ∧ (m.failed = true → m.samples = []) ∧ (m.failed = false → m.kept = []) ∧
    ∀ t ∈ m.samples ++ m.kept, t ≤ Config.tensionMax

theorem Station.sampleLaw_iff (c : Station) : c.SampleLaw ↔ c.monitor.SampleLaw := Iff.rfl

theorem Monitor.SampleLaw.of_same {m n : Monitor} (h : m.SampleLaw) (hs : m.SameSamples n) : n.SampleLaw := by
  obtain ⟨h1, h2, h3, -⟩ := hs
  unfold Monitor.SampleLaw
  rw [h1, h2, h3]
  exact h

theorem Monitor.SampleLaw.noNew {m n : Monitor} (h : m.SampleLaw) (hn : m.NoNewSample n) : n.SampleLaw := by
  obtain ⟨hlen, hkept, hfail, hok, hmax⟩ := h
  obtain ⟨hf, hs, hk⟩ := hn
  unfold Monitor.SampleLaw
  rw [hf]
  rcases hs with hs | hs <;> rcases hk with hk | hk <;> rw [hs, hk]
  · exact ⟨hlen, hkept, hfail, hok, hmax⟩
  · exact ⟨hlen, by decide, hfail, fun _ => rfl, fun t ht => hmax t (by simp_all)⟩
  · exact ⟨by decide, hkept, fun _ => rfl, hok, fun t ht => hmax t (by simp_all)⟩
  · exact ⟨by decide, by decide, fun _ => rfl, fun _ => rfl, nofun⟩

/-- One sample taken in (R64 to R66). -/
theorem Monitor.SampleLaw.absorb {m : Monitor} (h : m.SampleLaw) (limit : Nat) {x : Option Nat}
    (hx : ∀ t, x = some t → t ≤ Config.tensionMax) : (m.absorb limit x).SampleLaw := by
  obtain ⟨hlen, hkept, hfail, hok, hmax⟩ := h
  unfold Monitor.absorb
  split
  · next t hf =>
    have hk := hok hf
    refine ⟨length_pushSample_le hlen t, hkept, by simp [hf], fun _ => hk, fun u hu => ?_⟩
    have hu : u ∈ pushSample m.samples t := by simpa [hk] using hu
    rcases mem_pushSample hu with hu | rfl
    · exact hmax u (List.mem_append_left _ hu)
    · exact hx u rfl
  · next hf =>
    split
    · exact ⟨Nat.zero_le _, Nat.zero_lt_succ _, fun _ => rfl, fun _ => rfl, nofun⟩
    · exact ⟨hlen, hkept, hfail, hok, hmax⟩
  · next t hf =>
    have hs := hfail hf
    have hall : ∀ u ∈ m.kept ++ [t], u ≤ Config.tensionMax := by
      intro u hu
      rcases List.mem_append.mp hu with hu | hu
      · exact hmax u (List.mem_append_right _ hu)
      · exact hx u (by rw [List.mem_singleton.mp hu])
    split
    · next hfour =>
      exact ⟨by simp [hfour, Config.sampleDepth], Nat.zero_lt_succ _, nofun, fun _ => rfl, by simpa using hall⟩
    · next hfour =>
      refine ⟨by simp [hs], ?_, fun _ => hs, by simp [hf], by simpa [hs] using hall⟩
      simp [Config.sampleDepth] at hfour ⊢
      omega
  · next hf => exact ⟨hlen, Nat.zero_lt_succ _, hfail, fun _ => rfl, fun t ht => hmax t (by simp_all)⟩

theorem Station.SampleLaw.move (h : c.SampleLaw) (m : Station.Move free c d) : d.SampleLaw := by
  cases m with
  | channel m a hm ha => exact Monitor.SampleLaw.noNew h hm
  | sample edges =>
    have absorbed := Monitor.SampleLaw.absorb h c.settings.invalidLimit fun t (ht : sampleOf c.settings edges = some t) =>
      sampleOf_le ht
    exact absorbed.of_same (c.sameSamples_takeSample edges)
  | _ => exact h

/-! ### Level conditions (R67, R73, R78) -/

theorem Station.LevelLaw.noNew (h : c.LevelLaw) {m : Monitor} {a : StationAttn} (ha : c.NoNewLevel m a) :
    Station.LevelLaw { c with monitor := m, attn := a } := by
  obtain ⟨hband, hlock, hclear⟩ := h
  exact ⟨fun e => hband (ha.1 e), fun e => hlock (ha.2.1 e), fun e => hclear (ha.2.2 e)⟩

/-- A change of state keeps a level only where its comparison goes on (R67). -/
theorem Station.levelLaw_change (c : Station) (new : LineState) : (c.change new).LevelLaw := by
  refine ⟨fun e => ?_, fun e => ?_, nofun⟩
  · simp only [Station.attn_change, Station.monitor_change, StationAttn.changed, Monitor.changed,
      Bool.and_eq_true] at e
    exact e.elim (·.2.2) (·.elim (·.2.2) (·.elim (·.2.2) (·.2.2)))
  · simp only [Station.attn_change, StationAttn.changed, Bool.and_eq_true] at e
    exact e.2.2

theorem Station.LevelLaw.compareBand (h : c.LevelLaw) : c.compareBand.LevelLaw := by
  obtain ⟨hband, hlock, hclear⟩ := h
  unfold Station.compareBand
  dsimp only
  split
  · next hb =>
    split
    · exact ⟨fun _ => hb, hlock, hclear⟩
    · split
      · exact ⟨fun _ => hb, hlock, hclear⟩
      · exact ⟨fun _ => hb, hlock, hclear⟩
  · exact ⟨hband, hlock, hclear⟩

theorem Station.LevelLaw.compareLock (h : c.LevelLaw) : c.compareLock.LevelLaw := by
  obtain ⟨hband, hlock, hclear⟩ := h
  unfold Station.compareLock
  split
  · next hl => exact ⟨hband, fun _ => hl, hclear⟩
  · exact ⟨hband, hlock, hclear⟩

theorem Station.LevelLaw.compareClear (h : c.LevelLaw) : c.compareClear.LevelLaw := by
  obtain ⟨hband, hlock, hclear⟩ := h
  unfold Station.compareClear
  split
  · next hs => exact ⟨hband, hlock, fun _ => hs⟩
  · exact ⟨hband, hlock, hclear⟩

theorem Station.LevelLaw.compareParted (h : c.LevelLaw) : c.compareParted.LevelLaw := by
  unfold Station.compareParted
  split <;> exact h

theorem Station.LevelLaw.askCorrection (h : c.LevelLaw) (partedNow : Bool) : (c.askCorrection partedNow).LevelLaw := by
  unfold Station.askCorrection
  dsimp only
  split
  · split
    · exact h
    · split <;> exact h
  · exact h

/-- Taking a sample in, and the repeated report, note no dwell. -/
theorem Monitor.dues_absorb (m : Monitor) (limit : Nat) (x : Option Nat) (state : LineState) :
    ((m.absorb limit x).repeatFailure m state).belowDue = m.belowDue ∧
      ((m.absorb limit x).repeatFailure m state).aboveDue = m.aboveDue ∧
      ((m.absorb limit x).repeatFailure m state).clearDue = m.clearDue := by
  obtain ⟨-, -, -, -, -, hb, ha, hc⟩ := m.absorb_counts limit x
  unfold Monitor.repeatFailure
  split <;> exact ⟨hb, ha, hc⟩

theorem Station.LevelLaw.takeSample (h : c.LevelLaw) (edges : List Nat) : (c.takeSample edges).LevelLaw := by
  obtain ⟨hb, ha, hc⟩ := c.monitor.dues_absorb c.settings.invalidLimit (sampleOf c.settings edges) c.state
  unfold Station.takeSample
  refine Station.LevelLaw.askCorrection ?_ _
  refine Station.LevelLaw.compareClear (Station.LevelLaw.compareLock (Station.LevelLaw.compareParted ?_))
  refine Station.LevelLaw.noNew (Station.LevelLaw.compareBand ?_) ⟨id, id, id⟩
  exact h.noNew ⟨fun e => by simpa [hb, ha] using e, id, fun e => by simpa [hc] using e⟩

theorem Station.LevelLaw.move (h : c.LevelLaw) (m : Station.Move free c d) : d.LevelLaw := by
  cases m with
  | channel m a hm ha => exact h.noNew ha
  | sample edges => exact h.takeSample edges
  | change new => exact c.levelLaw_change new
  | adopt new vessel a => exact (c.adopted vessel a).levelLaw_change new
  | fault => exact (c.levelLaw_change .fault).noNew ⟨id, id, id⟩
  | retire => exact c.levelLaw_change .stowed
  | payOut => exact c.levelLaw_change .payout
  | ease => exact c.levelLaw_change .easing
  | replaceCause | setPhase | remember | creep | drive | hold | mark | band | settings | book => exact h

/-! ### Payout and overrun (R91) -/

/-- The payout law of a drive channel. -/
def Drive.PayoutLaw (d : Drive) : Prop :=
  d.payout.all (fun p => decide (p ≤ Config.payoutMax)) = true ∧ d.overrun ≤ Config.countMax

theorem Drive.PayoutLaw.of_same {d e : Drive} (h : d.PayoutLaw) (hp : e.payout = d.payout)
    (ho : e.overrun = d.overrun) : e.PayoutLaw := by
  unfold Drive.PayoutLaw
  rw [hp, ho]
  exact h

theorem Drive.PayoutLaw.counted {d : Drive} (h : d.PayoutLaw) (dir : CountDir) : (d.counted dir).PayoutLaw := by
  obtain ⟨hp, ho⟩ := h
  refine ⟨?_, Drive.counted_overrun_le ho dir⟩
  cases hd : d.payout with
  | none => cases dir <;> simp [Drive.counted, hd]
  | some p =>
    rw [hd] at hp
    obtain ⟨q, hq, hle⟩ := Drive.counted_payout_le hd (by simpa using hp) dir
    rw [hq]
    simpa using hle

theorem Drive.PayoutLaw.move {state : LineState} {d e : Drive} (h : d.PayoutLaw) (m : Drive.Move state d e) :
    e.PayoutLaw := by
  cases m with
  | stop | confirm | reading | rest | stopAtRest | leaveOpen | timeout | homeOpens => exact h
  | place n g =>
    unfold Drive.place
    split
    · split <;> exact h
    · exact h
  | promote n =>
    unfold Drive.promote
    split <;> exact h
  | order n p =>
    unfold Drive.order
    cases p <;> dsimp only <;> split <;> exact h
  | count n dir => exact Drive.PayoutLaw.counted (d := d.restartStall n) h dir
  | decode v =>
    rw [d.decode_frame v]
    exact h
  | homeCloses => exact ⟨rfl, Nat.zero_le _⟩

theorem Station.PayoutLaw.change (h : c.PayoutLaw) (new : LineState) : (c.change new).PayoutLaw := by
  obtain ⟨⟨hp, ho, -⟩, -⟩ := c.keepsGround_change new
  exact Drive.PayoutLaw.of_same h hp ho

theorem Station.PayoutLaw.move (h : c.PayoutLaw) (m : Station.Move free c d) : d.PayoutLaw := by
  cases m with
  | sample edges =>
    rw [c.onlyChannel_takeSample edges]
    exact h
  | change new => exact h.change new
  | adopt new vessel a => exact Station.PayoutLaw.change (c := c.adopted vessel a) h new
  | fault => exact h.change .fault
  | retire => exact h.change .stowed
  | payOut => exact h.change .payout
  | ease => exact h.change .easing
  | drive d hd => exact Drive.PayoutLaw.move h hd
  | channel | replaceCause | setPhase | remember | creep | hold | mark | band | settings | book => exact h

/-! ### Drive and clamp (R84, R85, Table 4-4) -/

/-- The drive law and the clamp law of a channel whose line is in `state`. -/
def Drive.Law (state : LineState) (d : Drive) : Prop :=
  ((d.mode = .running ↔ d.cur.isSome) ∧ (d.nxt.isSome → d.cur.isSome) ∧ (d.mode = .running → d.field = .opened) ∧
    (state.undriven = true → d.cur = none ∧ d.nxt = none)) ∧
  ((d.deadline.isSome ↔ d.field.travelling = true) ∧
    (d.field.travelling = true → d.command.map ClampPosition.travel = some d.field))

theorem Station.driveLaw_iff (c : Station) : c.DriveLaw ∧ c.ClampLaw ↔ Drive.Law c.state c.drive := Iff.rfl

theorem Drive.Law.stop {state state' : LineState} {d : Drive} (h : Drive.Law state d) : Drive.Law state' d.stop :=
  ⟨⟨by simp [Drive.stop], by simp [Drive.stop], nofun, fun _ => ⟨rfl, rfl⟩⟩, h.2⟩

theorem Drive.Law.freeDrum {state state' : LineState} {d : Drive} (h : Drive.Law state d) :
    Drive.Law state' d.freeDrum :=
  ⟨⟨by simp [Drive.freeDrum], by simp [Drive.freeDrum], nofun, fun _ => ⟨rfl, rfl⟩⟩, h.2⟩

/-- A segment becomes current where the clamp field is OPEN and the state has segments. -/
theorem Drive.Law.start {state : LineState} {d : Drive} (h : Drive.Law state d) (n : Nat) (g : Segment)
    (hf : d.field = .opened) (hs : state.undriven = false) : Drive.Law state (d.start n g) :=
  ⟨⟨by simp [Drive.start], fun _ => rfl, fun _ => hf, fun e => absurd (hs.symm.trans e) (by decide)⟩, h.2⟩

theorem Drive.Law.place {state : LineState} {d : Drive} (h : Drive.Law state d) (n : Nat) (g : Segment)
    (hs : state.undriven = false) : Drive.Law state (d.place n g) := by
  unfold Drive.place
  split
  · next hf =>
    split
    · next hm =>
      obtain ⟨⟨hrun, hnxt, hopen, -⟩, hclamp⟩ := h
      exact ⟨⟨hrun, fun _ => hrun.mp hm, hopen, fun e => absurd (hs.symm.trans e) (by decide)⟩, hclamp⟩
    · exact h.start n g hf hs
    · exact h.start n g hf hs
  · exact h

/-- A segment that was current was so with the clamp OPEN, in a state that has segments. -/
theorem Drive.Law.of_current {state : LineState} {d : Drive} (h : Drive.Law state d) (hc : d.cur.isSome = true) :
    d.field = .opened ∧ state.undriven = false := by
  obtain ⟨⟨hrun, -, hopen, hempty⟩, -⟩ := h
  refine ⟨hopen (hrun.mpr hc), ?_⟩
  refine Classical.byContradiction fun hu => ?_
  rw [(hempty (by simpa using hu)).1] at hc
  cases hc

theorem Drive.Law.promote {state : LineState} {d : Drive} (h : Drive.Law state d) (n : Nat)
    (hc : d.cur.isSome = true) : Drive.Law state (d.promote n) := by
  obtain ⟨hf, hs⟩ := h.of_current hc
  unfold Drive.promote
  split
  · exact ⟨⟨by simp [Drive.start], nofun, fun _ => hf, fun e => absurd (hs.symm.trans e) (by decide)⟩, h.2⟩
  · exact h.stop

/-- A channel whose field changes from other than OPEN, or with the drive not running. -/
theorem Drive.Law.withField {state : LineState} {d : Drive} (h : Drive.Law state d) (r : SwitchReading)
    (command : Option ClampPosition) (field : ClampField) (deadline : Option Nat)
    (hm : d.mode = .running → field = .opened) (hd : deadline.isSome ↔ field.travelling = true)
    (ht : field.travelling = true → command.map ClampPosition.travel = some field) :
    Drive.Law state { d with reading := r, command := command, field := field, deadline := deadline } := by
  obtain ⟨⟨hrun, hnxt, -, hempty⟩, -⟩ := h
  exact ⟨⟨hrun, hnxt, hm, hempty⟩, hd, ht⟩

theorem Drive.Law.notRunning {state : LineState} {d : Drive} (h : Drive.Law state d) (hf : d.field ≠ .opened) :
    d.mode ≠ .running := fun e => hf (h.1.2.2.1 e)

theorem Drive.Law.noDeadline {state : LineState} {d : Drive} (h : Drive.Law state d)
    (hf : d.field.travelling = false) : d.deadline = none := by
  obtain ⟨-, hdead, -⟩ := h
  rw [hf] at hdead
  simpa using hdead

@[simp] theorem ClampPosition.travelling_travel (p : ClampPosition) : p.travel.travelling = true := by cases p <;> rfl

@[simp] theorem ClampPosition.travelling_field (p : ClampPosition) : p.field.travelling = false := by cases p <;> rfl

@[simp] theorem travelling_fieldOfReading (r : SwitchReading) : (fieldOfReading r).travelling = false := by
  cases r <;> rfl

/-- The order itself, without a CLOSE's STOP. -/
def Drive.ordered (d : Drive) (limit : Nat) (p : ClampPosition) : Drive :=
  if d.field = p.field ∨ d.field = p.travel then { d with command := some p }
  else { d with command := some p, field := p.travel, deadline := some limit }

theorem Drive.order_eq (d : Drive) (limit : Nat) (p : ClampPosition) :
    d.order limit p = (if p = .closed then d.stop else d).ordered limit p := by
  cases p <;> simp only [Drive.order, Drive.ordered, Drive.stop] <;> rfl

theorem Drive.Law.ordered {state : LineState} {d : Drive} (h : Drive.Law state d) (limit : Nat) (p : ClampPosition)
    (hm : d.mode = .running → p = .opened) : Drive.Law state (d.ordered limit p) := by
  unfold Drive.ordered
  split
  · next hf =>
    refine h.withField d.reading (some p) d.field d.deadline h.1.2.2.1 h.2.1 fun ht => ?_
    rcases hf with hf | hf
    · rw [hf, ClampPosition.travelling_field] at ht
      cases ht
    · exact congrArg some hf.symm
  · next hf =>
    refine h.withField d.reading (some p) p.travel (some limit) (fun e => ?_) (by simp) fun _ => rfl
    refine absurd (Or.inl ?_) hf
    rw [h.1.2.2.1 e, hm e]
    rfl

theorem Drive.Law.order {state : LineState} {d : Drive} (h : Drive.Law state d) (limit : Nat) (p : ClampPosition) :
    Drive.Law state (d.order limit p) := by
  rw [Drive.order_eq]
  cases p with
  | opened => exact h.ordered limit _ fun _ => rfl
  | closed => exact (h.stop (state' := state)).ordered limit _ nofun

theorem Drive.Law.counted {state : LineState} {d : Drive} (h : Drive.Law state d) (dir : CountDir) :
    Drive.Law state (d.counted dir) := by
  unfold Drive.counted
  split
  · exact h
  · exact h
  · exact h
  · split <;> exact h
  · exact h

/-- What the position confirmed was (R96, R97). -/
theorem Drive.confirms_eq_some {d : Drive} {p : ClampPosition} (h : d.confirms = some p) :
    d.command = some p ∧ d.field = p.travel ∧ d.reading = p.reading := by
  unfold Drive.confirms at h
  split at h
  · next q hq =>
    rw [Option.ite_none_right_eq_some] at h
    obtain ⟨hok, h⟩ := h
    cases h
    exact ⟨hq, hok⟩
  · cases h

theorem Drive.Law.move {state : LineState} {d e : Drive} (h : Drive.Law state d) (m : Drive.Move state d e) :
    Drive.Law state e := by
  cases m with
  | stop => exact h.stop
  | place n g hs => exact h.place n g hs
  | promote n hc => exact h.promote n hc
  | order n p => exact h.order n p
  | confirm p hp =>
    have hnot : d.mode ≠ .running := h.notRunning (by rw [(Drive.confirms_eq_some hp).2.1]; cases p <;> decide)
    exact h.withField d.reading d.command p.field none (fun e => absurd e hnot) (by simp) (by simp)
  | reading | homeCloses | homeOpens => exact h
  | rest r ht hr =>
    refine h.withField r d.command (fieldOfReading r) d.deadline (fun e => ?_) (by simp [h.noDeadline ht]) (by simp)
    exact hr.elim (fun hn => absurd (h.1.2.2.1 e) hn) id
  | stopAtRest r ht =>
    exact (h.stop (state' := state)).withField r d.command (fieldOfReading r) d.deadline nofun
      (by simp [h.noDeadline ht]) (by simp)
  | leaveOpen r ht hm =>
    exact h.withField r d.command (fieldOfReading r) d.deadline (fun e => absurd e hm) (by simp [h.noDeadline ht])
      (by simp)
  | timeout hd =>
    have hnot : d.mode ≠ .running := h.notRunning fun e => by simpa [e, ClampField.travelling] using h.2.1.mp hd
    exact h.withField d.reading d.command .unknown none (fun e => absurd e hnot) (by decide) nofun
  | count n dir => exact Drive.Law.counted (d := d.restartStall n) h dir
  | decode v =>
    rw [d.decode_frame v]
    exact h

theorem Drive.Law.change (h : Drive.Law c.state c.drive) (new : LineState) :
    Drive.Law (c.change new).state (c.change new).drive := by
  unfold Station.change
  dsimp only
  split
  · exact h.freeDrum
  · exact h.stop

theorem Station.driveAndClampLaw_move (h : c.DriveLaw ∧ c.ClampLaw) (m : Station.Move free c d) :
    d.DriveLaw ∧ d.ClampLaw := by
  rw [Station.driveLaw_iff] at h ⊢
  cases m with
  | sample edges =>
    rw [c.onlyChannel_takeSample edges]
    exact h
  | change new => exact h.change new
  | adopt new vessel a => exact Drive.Law.change (c := c.adopted vessel a) h new
  | fault => exact h.change .fault
  | retire => exact h.change .stowed
  | payOut => exact h.change .payout
  | ease => exact h.change .easing
  | drive d hd => exact h.move hd
  | channel | replaceCause | setPhase | remember | creep | hold | mark | band | settings | book => exact h

/-! ### Tags and bands (R3, R4, R5) -/

theorem Station.TagLaw.change (h : c.TagLaw) {new : LineState} (hn : new ≠ .stowed ∧ new ≠ .halted)
    (hc : c.state ≠ .stowed) : (c.change new).TagLaw := by
  obtain ⟨-, hband, hvalid, htag, hdef⟩ := h
  refine ⟨fun e => absurd e (not_or.mpr hn), ?_, hvalid, htag, hdef⟩
  exact ⟨fun _ => hn.1, fun _ => hband.mpr hc⟩

/-- With FieldLaw: what has an ease limit timer is in EASING, and so not in STOWED. -/
theorem Station.TagLaw.move (hf : c.FieldLaw) (h : c.TagLaw) (m : Station.Move free c d) : d.TagLaw := by
  have same := h
  obtain ⟨hnone, hband, hvalid, htag, hdef⟩ := h
  cases m with
  | channel | replaceCause | setPhase | remember | creep | drive | hold | book => exact same
  | sample edges =>
    rw [c.onlyChannel_takeSample edges]
    exact same
  | change new hn hc =>
    obtain ⟨h1, -, -, -, h2⟩ := LineState.plain_ne hn
    exact same.change ⟨h1, h2⟩ hc
  | adopt new vessel a hn hc ht hb =>
    obtain ⟨h1, -, -, -, h2⟩ := LineState.plain_ne hn
    have hsome : c.band.isSome := hband.mpr (by simp [hc])
    have hadopted : (a.band.or c.band).isSome = true ∧ (a.band.or c.band).all Band.valid = true := by
      cases hab : a.band with
      | none => exact ⟨hsome, hvalid⟩
      | some x =>
        rw [hab] at hb
        exact ⟨rfl, hb⟩
    exact ⟨fun e => absurd e (not_or.mpr ⟨h1, h2⟩), ⟨fun _ => h1, fun _ => hadopted.1⟩, hadopted.2, ht, hdef⟩
  | fault cause hc =>
    have hc : c.state ≠ .stowed := hc.elim id fun ht e => by
      have := hf.2.2.2.1.mp ht
      rw [e] at this
      cases this
    exact same.change (new := .fault) ⟨nofun, nofun⟩ hc
  | retire hu => exact ⟨fun _ => ⟨rfl, rfl⟩, by simp [Station.enterStowed], rfl, rfl, hdef⟩
  | payOut tag => exact ⟨by simp, by simp, hdef, htag, hdef⟩
  | ease phase hc hh => exact same.change (new := .easing) ⟨nofun, nofun⟩ hc
  | mark t hs hh ht hfree => exact ⟨fun e => absurd e (not_or.mpr ⟨hs, hh⟩), hband, hvalid, ht, hdef⟩
  | band b hs hb => exact ⟨hnone, ⟨fun _ => hs, fun _ => rfl⟩, hb, htag, hdef⟩
  | settings u hu => exact ⟨hnone, hband, hvalid, htag, hu hdef⟩

/-- A move leaves the fitting tag, takes it off, or sets one that is free. -/
theorem Station.Move.fittingTag (m : Station.Move free c d) :
    d.fittingTag = c.fittingTag ∨ ∀ t, d.fittingTag = some t → free t := by
  cases m with
  | sample edges =>
    rw [c.onlyChannel_takeSample edges]
    exact .inl rfl
  | adopt new vessel a hn hc ht hb hf => exact .inr hf
  | retire => exact .inr nofun
  | mark t hs hh ht hf =>
    refine .inr fun u hu => ?_
    cases hu
    exact hf
  | _ => exact .inl rfl

theorem Station.Acts.fittingTag {b c : Station} (h : b.Acts free c) :
    c.fittingTag = b.fittingTag ∨ ∀ t, c.fittingTag = some t → free t := by
  refine h.keeps (p := fun c => c.fittingTag = b.fittingTag ∨ ∀ t, c.fittingTag = some t → free t) ?_ (.inl rfl)
  intro c d m hc
  rcases m.fittingTag with hd | hd
  · rw [hd]
    exact hc
  · exact .inr hd

end Sys2Proof.Machine
end

section
/-! PROOF. What any command can do to a face, to the port and to the part, said once: chains of the moves below. -/

namespace Sys2Proof.Machine

/-! ### The moves of a sequencer -/

/-- What an edit may make of an entry: it stays on its side of the cursor, comes into progress from nowhere, and a timer
runs on only in progress, or not at all where no timer runs. -/
def PlanEntry.Goes (active : Bool) (e e' : PlanEntry) : Prop :=
  e'.station = e.station ∧ e'.status.advances = e.status.advances ∧ (e.status.advances = false → e'.status = e.status) ∧
    (e'.status.inProgress = true → e.status.inProgress = true) ∧
    (e'.timer.isSome = true → e.timer.isSome = true ∧ (e'.status.inProgress = true ∨ active = false))

/-- No station is listed twice, and an active sequencer owes no return claim (R121, R135). -/
def Sequencer.Sound (q : Sequencer) : Prop :=
  (q.entries.map PlanEntry.station).Nodup ∧ (q.active = true → q.returnsOwed = [])

/-- One move of a sequencer that leaves it active or not, as it was. -/
inductive Sequencer.Move (q : Sequencer) : Sequencer → Prop
  | control (st : SeqState) (walk : Bool) (starts : List StationId)
      (h : Sequencer.active { q with state := st, walkOwed := walk, startsOwed := starts } = q.active) :
      Sequencer.Move q { q with state := st, walkOwed := walk, startsOwed := starts }
  | returns (rs : List StationId) (h : q.returnsOwed = [] → rs = []) : Sequencer.Move q { q with returnsOwed := rs }
  | edit (i : StationId) (g : PlanEntry → PlanEntry)
      (h : q.Sound → ∀ e ∈ q.entries, e.station = i → e.Goes q.active (g e)) : Sequencer.Move q (q.edit i g)
  | walked (i : StationId) (status : EntryStatus) (hl : q.canLook = true) (hc : q.cursorStation = some i) :
      Sequencer.Move q (q.walked i status)

/-! ### The moves of a ship link -/

inductive Link.Move (l : Link) : Link → Prop
  | hunt (running : Bool) (h : l.sending = false ∨ l.rx ≠ .blanked) : Link.Move l (l.hunt running)
  | handOver (t : TxFrame) : Link.Move l (l.handOver t)
  | start (u : FaceSettings) (h : l.rx = .idle) : Link.Move l { l with rx := .start, ignoring := false, rxSettings := u }
  | transmit (u : FaceSettings) (h : l.current.isSome = true) :
      Link.Move l { l with rx := .blanked, sending := true, txSettings := u }
  | sent : Link.Move l l.sent
  | listen (ignoring : Bool) (earlier : List FaceSettings) :
      Link.Move l { l with ignoring := ignoring, earlier := earlier }

/-! ### The moves of a face -/

/-- One move of a face that its sequencer makes. -/
inductive FaceState.PlanMove (x : FaceState) : FaceState → Prop
  | sequencer (q : Sequencer) (h : Steps Sequencer.Move x.sequencer q) :
      FaceState.PlanMove x { x with sequencer := q }
  | done (h : x.sequencer.complete = true) : FaceState.PlanMove x { x with
      sequencer := { x.sequencer with state := .done }.dropOwed
      grant := if x.grant = .departing then .cleared else x.grant }
  | attn (a : FaceAttn) (h : a.linkError = x.attn.linkError) : FaceState.PlanMove x { x with attn := a }

/-- One move of a face; `other` is the tag of the other face. -/
inductive FaceState.Move (other : Half) (x : FaceState) : FaceState → Prop
  | ofPlan {y : FaceState} (h : x.PlanMove y) : FaceState.Move other x y
  | link (l : Link) (h : x.link.Move l) : FaceState.Move other x { x with link := l }
  | flags (l : LinkFlags) : FaceState.Move other x (x.withFlags l)
  | settings (u : FaceSettings) : FaceState.Move other x { x with settings := u }
  | erLevel (b : Bool) : FaceState.Move other x { x with erActive := b }
  | emergency : FaceState.Move other x { x with grant := x.grant.emergency, planReports := x.planReports + 1 }
  | freeze (left : Nat) (h : x.planReports ≠ 0) :
      FaceState.Move other x { x with planReports := left, sequencer := x.sequencer.frozen }
  | abort : FaceState.Move other x { x with
      sequencer := x.sequencer.aborted
      grant := if x.grant = .departing then .moored else x.grant }
  | depart (h : x.grant = .moored) :
      FaceState.Move other x { x with grant := .departing, planReports := 0, sequencer := x.sequencer.departed }
  | plan (width timeout : Nat) (is : List StationId) (h : x.sequencer.active = false) (hn : is.Nodup) :
      FaceState.Move other x { x with sequencer := x.sequencer.planned width timeout is }
  | arrive (tag : Half) (hg : x.grant = .vacant) (h0 : tag ≠ 0) (ho : tag ≠ other) (hw : x.window ≠ none) :
      FaceState.Move other x { x with grant := .approach, tag := tag }
  | secure (h : x.grant = .approach) : FaceState.Move other x { x with grant := .moored }
  | vacate (h : x.grant = .approach ∨ x.grant = .cleared) (hr : x.planReports = 0) :
      FaceState.Move other x { x with grant := .vacant, tag := 0 }

/-! ### The moves of the part -/

/-- One move that a sequencer makes: a claim on a record, reports that fall, or a change of its own. -/
inductive State.PlanMove (s : State) : State → Prop
  | line (i : StationId) (c : Station) (h : (s.st i).Acts (fun t => s.tagTaken i t = false) c) :
      State.PlanMove s (s.setSt i c)
  | lines (p : StationId → Bool) (g : Station → Station) (h : ∀ c, Station.Acts (fun _ => False) c (g c)) :
      State.PlanMove s (s.mapStations p g)
  | face (f : Face) (x : FaceState) (h : (s.face f).PlanMove x) : State.PlanMove s (s.setFace f x)

/-- One move of the part, but for the queue, the reset line and the shore port. -/
inductive State.Move (s : State) : State → Prop
  | ofPlan {t : State} (h : s.PlanMove t) : State.Move s t
  | face (f : Face) (x : FaceState) (h : (s.face f).Move (s.face (otherFace f)).tag x) : State.Move s (s.setFace f x)
  | window (f : Face) (w : Option Window) (hg : (s.face f).grant = .vacant) (hv : ∀ v, w = some v → v.Valid)
      (ha : ∀ i, inWindow w i = true → inWindow (s.face (otherFace f)).window i = false)
      (hr : ∀ i, inWindow w i = true → (s.st i).atRest = true) :
      State.Move s (s.onFace f fun x => { x with window := w, sequencer := x.sequencer.emptied })
  | mask (urgent routine : Bool) : State.Move s { s with urgentMasked := urgent, routineMasked := routine }

/-- Moves of a sequencer one after another. -/
def State.PlanActs (s t : State) : Prop := Steps State.PlanMove s t

/-- Moves one after another. -/
def State.Acts (s t : State) : Prop := Steps State.Move s t

/-- What the shore port can do. -/
inductive ShorePort.Step (p : ShorePort) : ShorePort → Prop
  | stay : ShorePort.Step p p
  | answer (n : Nat) (o : Bool) (a : Answer) (h : p.phase = .receiving) : ShorePort.Step p { p with
      phase := .answering, bitCount := 8 * n, received := [], answer := some a, atOnce := o }
  | select (bits : List Bool) : ShorePort.Step p { ShorePort.reset with
      phase := .receiving, selLow := true, bitCount := bits.length, received := bits }
  | deselect : ShorePort.Step p .reset

/-- What a command out of reset can do: moves of the part, and a step of the shore port. -/
def State.Does (s t : State) : Prop :=
  ∃ p u, State.Acts { s with shore := p } u ∧ t = { u with shore := t.shore } ∧ ShorePort.Step s.shore t.shore

/-- A property that every move keeps is kept by moves one after another. -/
theorem State.PlanActs.keeps {p : State → Prop} {s t : State} (h : s.PlanActs t)
    (hp : ∀ s t, State.PlanMove s t → p s → p t) (hs : p s) : p t := by
  induction h with
  | refl => exact hs
  | tail _ hm ih => exact hp _ _ hm ih

theorem State.Acts.keeps {p : State → Prop} {s t : State} (h : s.Acts t)
    (hp : ∀ s t, State.Move s t → p s → p t) (hs : p s) : p t := by
  induction h with
  | refl => exact hs
  | tail _ hm ih => exact hp _ _ hm ih

theorem State.PlanActs.refl (s : State) : s.PlanActs s := Steps.refl

theorem State.Acts.refl (s : State) : s.Acts s := Steps.refl

theorem State.PlanActs.acts {s t : State} (h : s.PlanActs t) : s.Acts t :=
  Steps.mono (fun _ _ m => State.Move.ofPlan m) h

theorem State.Acts.trans {s t u : State} (h : s.Acts t) (k : t.Acts u) : s.Acts u := Steps.trans h k

/-! ### What the sequencer's moves leave -/

theorem Sequencer.Move.active {q r : Sequencer} (m : Sequencer.Move q r) : r.active = q.active := by
  cases m with
  | control st walk starts h => exact h
  | returns | edit | walked => rfl

theorem Sequencer.active_of_moves {q r : Sequencer} (h : Steps Sequencer.Move q r) :
    r.active = q.active := by
  induction h with
  | refl => rfl
  | tail _ m ih => exact m.active.trans ih

/-- The sequencer's moves leave an approach, a mooring and a plan that is not active as they are. -/
theorem State.PlanMove.face_keeps {s t : State} (m : State.PlanMove s t) (f : Face) :
    ((s.face f).grant = .moored → (t.face f).grant = .moored) ∧
      ((s.seq f).active = false → (t.seq f).active = false) := by
  cases m with
  | line => simp
  | lines => simp [State.seq]
  | face g x hx =>
    by_cases e : f = g
    · subst e
      simp only [State.seq, State.face_setFace_same]
      cases hx with
      | sequencer q hq => exact ⟨id, fun h => (Sequencer.active_of_moves hq).trans h⟩
      | done => exact ⟨fun h => by simp [h], fun _ => rfl⟩
      | attn => exact ⟨id, id⟩
    · simp [State.seq, e]

theorem State.PlanActs.moored {s t : State} (h : s.PlanActs t) {f : Face} (hs : (s.face f).grant = .moored) :
    (t.face f).grant = .moored :=
  h.keeps (p := fun t => (t.face f).grant = .moored) (fun _ _ m => (m.face_keeps f).1) hs

theorem State.PlanActs.inactive {s t : State} (h : s.PlanActs t) {f : Face} (hs : (s.seq f).active = false) :
    (t.seq f).active = false :=
  h.keeps (p := fun t => (t.seq f).active = false) (fun _ _ m => (m.face_keeps f).2) hs

/-! ### The sequencer's operations are its moves -/

section
variable {a s : State} (h : a.PlanActs s)
include h

theorem State.PlanActs.move {t : State} (m : State.PlanMove s t) : a.PlanActs t := Steps.tail h m

theorem State.PlanActs.ite {p : Prop} [Decidable p] {t : State} (ht : p → a.PlanActs t) :
    a.PlanActs (if p then t else s) := by
  split
  · next hp => exact ht hp
  · exact h

theorem State.PlanActs.onFace (f : Face) {g : FaceState → FaceState} (hg : (s.face f).PlanMove (g (s.face f))) :
    a.PlanActs (s.onFace f g) := h.move (.face f _ hg)

theorem State.PlanActs.onSeq (f : Face) {g : Sequencer → Sequencer}
    (hg : Steps Sequencer.Move (s.seq f) (g (s.seq f))) : a.PlanActs (s.onSeq f g) :=
  h.onFace f (.sequencer _ hg)

/-- A move of the sequencer that leaves its plan. -/
theorem State.PlanActs.onSeq_move (f : Face) {g : Sequencer → Sequencer} (hg : Sequencer.Move (s.seq f) (g (s.seq f))) :
    a.PlanActs (s.onSeq f g) := h.onSeq f (.single hg)

theorem State.PlanActs.latchFace (f : Face) (k : FaceCondition) (hk : k.isLatch = true) : a.PlanActs (s.latchFace f k) := by
  refine h.onFace f (.attn _ ?_)
  cases k with
  | linkError => cases hk
  | planDone | planPaused | emergency => rfl

theorem State.PlanActs.setSt (i : StationId) {c : Station} (hc : (s.st i).Acts (fun t => s.tagTaken i t = false) c) :
    a.PlanActs (s.setSt i c) := h.move (.line i c hc)

theorem State.PlanActs.onLine (i : StationId) {g : Station → Station}
    (hg : (s.st i).Acts (fun t => s.tagTaken i t = false) (g (s.st i))) : a.PlanActs (s.onLine i g) := by
  refine h.setSt i ?_
  split
  · exact hg
  · exact hg.withReports _

theorem State.PlanActs.mapStations (p : StationId → Bool) {g : Station → Station}
    (hg : ∀ c, Station.Acts (fun _ => False) c (g c)) : a.PlanActs (s.mapStations p g) := h.move (.lines p g hg)

theorem State.PlanActs.dropReports (f : Face) : a.PlanActs (s.dropReports f) :=
  h.mapStations _ fun c => (Station.Acts.refl _ c).withReports []

theorem State.PlanActs.testComplete (f : Face) : a.PlanActs (s.testComplete f) := by
  unfold State.testComplete
  exact h.ite fun hc => ((h.onFace f (.done hc.2)).latchFace f _ rfl).dropReports f

theorem State.PlanActs.failPause (f : Face) : a.PlanActs (s.failPause f) := by
  have paused (ha : (s.seq f).active = true) : a.PlanActs ((s.onSeq f fun q =>
      { q with state := .paused .failed, walkOwed := false }).latchFace f .planPaused) :=
    (h.onSeq_move f (.control (.paused .failed) false _ ha.symm)).latchFace f _ rfl
  unfold State.failPause
  split
  · next hs => exact paused (by simp [Sequencer.active, hs])
  · next hs => exact paused (by simp [Sequencer.active, hs])
  all_goals exact h

theorem State.PlanActs.lookOn (f : Face) : a.PlanActs (s.lookOn f) := h.onSeq_move f (.control _ _ _ rfl)

theorem State.PlanActs.lookAt (f : Face) (i : StationId) (hl : (s.seq f).canLook = true)
    (hc : (s.seq f).cursorStation = some i) : a.PlanActs (s.lookAt f i) := by
  have walked := h.onSeq_move f (g := fun q => q.walked i (walkStatus (s.st i))) (.walked i _ hl hc)
  have claimed := walked.onLine i (g := fun c => { c with toSequencer := [] }.takeWalk)
    ((Station.Acts.refl _ _).withReports []).takeWalk
  have tested := (claimed.ite (p := walkStatus (s.st i) = .failed) fun _ => claimed.failPause f).testComplete f
  exact tested.ite fun _ => tested.lookOn f

theorem State.PlanActs.walkOnce (f : Face) : a.PlanActs (s.walkOnce f) := by
  have dropped : a.PlanActs (s.onSeq f fun q => { q with walkOwed := false }) :=
    h.onSeq_move f (.control _ false _ rfl)
  unfold State.walkOnce
  refine h.ite fun _ => ?_
  split
  · next i hi =>
    split
    · next hl => exact h.lookAt f i hl hi
    · exact dropped
  · exact dropped

omit h in
theorem State.PlanActs.walkMany (n : Nat) (f : Face) {s : State} (h : a.PlanActs s) :
    a.PlanActs (State.walkMany n f s) := by
  induction n generalizing s with
  | zero => exact h
  | succ n ih => exact h.ite fun _ => ih (h.walkOnce f)

omit h in
/-- An entry in progress takes a status in progress, and keeps its timer. -/
theorem PlanEntry.goes_inProgress {active : Bool} {e e' : PlanEntry} (he : e.status.inProgress = true)
    (hs : e'.station = e.station) (ht : e'.timer = e.timer) (hp : e'.status.inProgress = true) : e.Goes active e' := by
  have advances {x : EntryStatus} (hx : x.inProgress = true) : x.advances = true := by
    revert hx
    cases x <;> decide
  refine ⟨hs, (advances hp).trans (advances he).symm, fun hn => ?_, fun _ => he, fun e => ⟨ht ▸ e, .inl hp⟩⟩
  exact absurd ((advances he).symm.trans hn) (by decide)

omit h in
/-- An entry past the cursor is finished, or loses its timer. -/
theorem PlanEntry.goes_stopped {active : Bool} {e e' : PlanEntry} (he : e.status.advances = true)
    (hs : e'.station = e.station) (ht : e'.timer = none) (ha : e'.status.advances = true)
    (hp : e'.status.inProgress = true → e.status.inProgress = true) : e.Goes active e' :=
  ⟨hs, ha.trans he.symm, fun hn => absurd (he.symm.trans hn) (by decide), hp, fun e => by simp [ht] at e⟩

omit h in
theorem eq_of_nodup_map {α β : Type} {g : α → β} {l : List α} (hn : (l.map g).Nodup) {x y : α} (hx : x ∈ l) (hy : y ∈ l)
    (he : g x = g y) : x = y := by
  induction l with
  | nil => cases hx
  | cons z rest ih =>
    obtain ⟨hz, hrest⟩ := List.nodup_cons.mp hn
    rcases List.mem_cons.mp hx with rfl | hx'
    · rcases List.mem_cons.mp hy with rfl | hy'
      · rfl
      · exact absurd (List.mem_map.mpr ⟨y, hy', he.symm⟩) hz
    · rcases List.mem_cons.mp hy with rfl | hy'
      · exact absurd (List.mem_map.mpr ⟨x, hx', he⟩) hz
      · exact ih hrest hx' hy'

omit h in
/-- Where no station is listed twice, the entry found is the only one of its station. -/
theorem Sequencer.Sound.eq_find {q : Sequencer} (hq : q.Sound) {i : StationId} {e e' : PlanEntry}
    (hf : q.find i = some e) (hm : e' ∈ q.entries) (hs : e'.station = i) : e' = e := by
  have he : e ∈ q.entries := List.mem_of_find?_eq_some hf
  have hi : e.station = i := by simpa using List.find?_some hf
  exact eq_of_nodup_map hq.1 hm he (hs.trans hi.symm)

/-- An edit of the entry found for a station. -/
theorem State.PlanActs.editFound (f : Face) {i : StationId} {e : PlanEntry} (hf : (s.seq f).find i = some e)
    {g : PlanEntry → PlanEntry} (hg : e.Goes (s.seq f).active (g e)) : a.PlanActs (s.onSeq f fun q => q.edit i g) :=
  h.onSeq_move f (.edit i g fun hq e' hm hs => by rw [hq.eq_find hf hm hs]; exact hg)

/-! #### Start claims and return claims (R129, R134, R136) -/

theorem State.PlanActs.startOnce (f : Face) (i : StationId) : a.PlanActs (s.startOnce f i) := by
  unfold State.startOnce
  refine h.ite fun _ => ?_
  have sent := h.onSeq_move f (g := fun q => { q with startsOwed := q.startsOwed.tail }) (.control _ _ _ rfl)
  refine sent.ite fun hs => ?_
  simp only [Bool.and_eq_true, Option.any_eq_true, decide_eq_true_eq] at hs
  obtain ⟨⟨⟨e, hf, he⟩, -⟩, -⟩ := hs
  have started := sent.editFound f (g := fun e => { e with status := .easing }) hf
    (PlanEntry.goes_inProgress (by rw [he]; rfl) rfl rfl rfl)
  exact started.onLine i ((Station.Acts.refl _ _).withReports []).takeStart

omit h in
/-- What a return claim makes of an entry, with no timer running (R136). -/
theorem PlanEntry.goes_returned (found : LineState) (e : PlanEntry) : e.Goes false (e.returned found) := by
  unfold PlanEntry.returned
  split
  · next he =>
    refine ⟨rfl, ?_, fun hn => ?_, fun _ => by rw [he]; rfl, fun ht => ⟨ht, .inr rfl⟩⟩
    · rw [he]
      cases found <;> rfl
    · rw [he] at hn
      cases hn
  · exact ⟨rfl, rfl, fun _ => rfl, id, fun ht => ⟨ht, .inr rfl⟩⟩

theorem State.PlanActs.returnOnce (f : Face) (i : StationId) : a.PlanActs (s.returnOnce f i) := by
  unfold State.returnOnce
  refine h.ite fun hi => ?_
  have claimed := h.onLine i (g := Station.takeReturn) (Station.Acts.refl _ _).takeReturn
  refine claimed.onSeq f (.tail (.single (.edit i _ fun hq e _ _ => ?_)) (.returns _ fun hr => ?_))
  · have hidle : ((s.onLine i Station.takeReturn).seq f).active = false := by
      refine Classical.byContradiction fun hact => ?_
      rw [State.seq_onLine] at hq hact
      rw [hq.2 (by simpa using hact)] at hi
      cases hi
    rw [hidle]
    exact PlanEntry.goes_returned _ e
  · have hr : ((s.onLine i Station.takeReturn).seq f).returnsOwed = [] := hr
    rw [hr]
    rfl

omit h in
theorem State.PlanActs.foldl {claim : State → StationId → State} (hc : ∀ s i, a.PlanActs s → a.PlanActs (claim s i))
    (is : List StationId) {s : State} (h : a.PlanActs s) : a.PlanActs (is.foldl claim s) := by
  induction is generalizing s with
  | nil => exact h
  | cons i rest ih => exact ih (hc s i h)

theorem State.PlanActs.settleSeq (f : Face) : a.PlanActs (s.settleSeq f) :=
  .walkMany _ f (.foldl (fun _ i hs => hs.startOnce f i) _ (.foldl (fun _ i hs => hs.returnOnce f i) _ h))

/-! #### Reports of a line (R126, R129, R133) -/

/-- An entry in progress fails. -/
theorem State.PlanActs.failEntry (f : Face) {i : StationId} {e : PlanEntry} (hf : (s.seq f).find i = some e)
    (he : e.status.advances = true) : a.PlanActs (s.failEntry f i) :=
  (h.editFound f (g := fun e => { e with status := .failed, timer := none }) hf
    (PlanEntry.goes_stopped he rfl rfl rfl nofun)).failPause f

theorem State.PlanActs.oweStart (f : Face) (i : StationId) : a.PlanActs (s.oweStart f i) :=
  h.ite fun _ => h.onSeq_move f (.control _ _ _ rfl)

theorem State.PlanActs.takeEntered (f : Face) (i : StationId) (entered : LineState) :
    a.PlanActs (s.takeEntered f i entered) := by
  unfold State.takeEntered
  split
  · exact h
  · next e hf =>
    split
    · next he => exact h.editFound f hf (PlanEntry.goes_inProgress (by rw [he]; rfl) rfl rfl rfl)
    · next he => exact h.editFound f hf (PlanEntry.goes_inProgress (by rw [he]; rfl) rfl rfl rfl)
    · next he =>
      have finished := h.editFound f (g := fun e => { e with status := .done, timer := none }) hf
        (PlanEntry.goes_stopped (by rw [he]; rfl) rfl rfl rfl nofun)
      exact (finished.testComplete f).lookOn f
    iterate 3 next he => exact h.failEntry f hf (by rw [he]; rfl)
    iterate 2 exact h.oweStart f i
    iterate 2 exact h.ite fun _ => h.lookOn f
    exact h

theorem State.PlanActs.takeEmptied (f : Face) (i : StationId) : a.PlanActs (s.takeEmptied f i) := by
  unfold State.takeEmptied
  split
  · exact h
  · split
    · exact h.ite fun _ => h.lookOn f
    · exact h.oweStart f i
    · exact h

theorem State.PlanActs.takeLineReport (i : StationId) (r : LineReport) : a.PlanActs (s.takeLineReport i r) := by
  unfold State.takeLineReport
  split
  · exact h
  · refine h.ite fun _ => ?_
    split
    · exact h.takeEntered _ i _
    · exact h.takeEmptied _ i

omit h in
theorem State.PlanActs.takeLineReports (i : StationId) (p : LineReport → Bool) (rs : List LineReport) {s : State}
    (h : a.PlanActs s) : a.PlanActs (State.takeLineReports i p rs s) := by
  induction rs generalizing s with
  | nil => exact h
  | cons r rest ih =>
    have taken := (h.setSt i ((Station.Acts.refl _ _).withReports rest)).takeLineReport i r
    unfold State.takeLineReports
    dsimp only
    split
    · exact taken
    · exact ih taken

theorem State.PlanActs.takeReportOf (i : StationId) (p : LineReport → Bool) : a.PlanActs (s.takeReportOf i p) :=
  h.ite fun _ => .takeLineReports i p _ h

/-! #### Resuming, pausing, the step timer (R130, R132, R134) -/

theorem State.PlanActs.resumed (f : Face) (hs : (s.seq f).active = true) : a.PlanActs (s.resumed f) :=
  ((h.onSeq_move f (.control .running _ _ hs.symm)).testComplete f).lookOn f

theorem State.PlanActs.paused (f : Face) (hs : (s.seq f).active = true) :
    a.PlanActs ((s.onSeq f fun q => { q with state := .paused .host }.dropOwed).latchFace f .planPaused) :=
  (h.onSeq_move f (.control (.paused .host) false [] hs.symm)).latchFace f _ rfl

theorem State.PlanActs.expireStep (f : Face) (i : StationId) : a.PlanActs (s.expireStep f i) := by
  unfold State.expireStep
  refine h.ite fun hs => ?_
  simp only [Bool.and_eq_true, Option.any_eq_true] at hs
  obtain ⟨-, e, hf, -, he⟩ := hs
  have expired := h.editFound f (g := fun e => { e with timer := none, late := true }) hf
    ⟨rfl, rfl, fun _ => rfl, id, nofun⟩
  refine expired.setSt i ?_
  rw [State.st_onSeq]
  exact (Station.Acts.refl _ _).latch _ rfl

end

end Sys2Proof.Machine
end

section
/-! PROOF. Every command out of reset makes moves of the part and a step of the port, and nothing else. -/

namespace Sys2Proof.Machine

/-! ### What no move touches -/

@[simp] theorem State.urgentMasked_mapStations (s : State) (p : StationId → Bool) (g : Station → Station) :
    (s.mapStations p g).urgentMasked = s.urgentMasked := by simp only [State.mapStations]

@[simp] theorem State.routineMasked_mapStations (s : State) (p : StationId → Bool) (g : Station → Station) :
    (s.mapStations p g).routineMasked = s.routineMasked := by simp only [State.mapStations]

/-- The queue, the reset line and the shore port are the same. -/
def State.SameFrame (s t : State) : Prop := t.pending = s.pending ∧ t.inReset = s.inReset ∧ t.shore = s.shore

theorem State.PlanMove.sameFrame {s t : State} (m : State.PlanMove s t) : s.SameFrame t := by
  cases m <;> simp [State.SameFrame]

theorem State.Move.sameFrame {s t : State} (m : State.Move s t) : s.SameFrame t := by
  cases m with
  | ofPlan h => exact h.sameFrame
  | face | window | mask => simp [State.SameFrame]

theorem State.Acts.sameFrame {s t : State} (h : s.Acts t) : s.SameFrame t := by
  refine h.keeps (p := fun t => s.SameFrame t) (fun t u m ht => ?_) ⟨rfl, rfl, rfl⟩
  obtain ⟨h1, h2, h3⟩ := ht
  obtain ⟨k1, k2, k3⟩ := m.sameFrame
  exact ⟨k1.trans h1, k2.trans h2, k3.trans h3⟩

/-! ### Operations of the part that are its moves -/

section
variable {a s : State} (h : a.Acts s)
include h

theorem State.Acts.move {t : State} (m : State.Move s t) : a.Acts t := Steps.tail h m

theorem State.Acts.plan {t : State} (k : s.PlanActs t) : a.Acts t := h.trans k.acts

theorem State.Acts.ite {p : Prop} [Decidable p] {t : State} (ht : p → a.Acts t) : a.Acts (if p then t else s) := by
  split
  · next hp => exact ht hp
  · exact h

theorem State.Acts.onFace (f : Face) {g : FaceState → FaceState}
    (hg : (s.face f).Move (s.face (otherFace f)).tag (g (s.face f))) : a.Acts (s.onFace f g) := h.move (.face f _ hg)

theorem State.Acts.onLine (i : StationId) {g : Station → Station}
    (hg : (s.st i).Acts (fun t => s.tagTaken i t = false) (g (s.st i))) : a.Acts (s.onLine i g) :=
  h.plan ((State.PlanActs.refl s).onLine i hg)

theorem State.Acts.mapStations (p : StationId → Bool) {g : Station → Station}
    (hg : ∀ c, Station.Acts (fun _ => False) c (g c)) : a.Acts (s.mapStations p g) :=
  h.plan ((State.PlanActs.refl s).mapStations p hg)

theorem State.Acts.dropReports (f : Face) : a.Acts (s.dropReports f) := h.plan ((State.PlanActs.refl s).dropReports f)

theorem State.Acts.latchFace (f : Face) (k : FaceCondition) (hk : k.isLatch = true) : a.Acts (s.latchFace f k) :=
  h.plan ((State.PlanActs.refl s).latchFace f k hk)

/-! #### Links -/

theorem State.Acts.raiseFlag (f : Face) (k : LinkFlag) : a.Acts (s.raiseFlag f k) := h.onFace f (.flags _)

theorem State.Acts.shipAnswer (f : Face) (tag : Half) (x : Answer) : a.Acts (s.shipAnswer f tag x) :=
  h.onFace f (.link _ (.handOver _))

theorem State.Acts.hunt (f : Face) (running : Bool)
    (hl : (s.face f).link.sending = false ∨ (s.face f).link.rx ≠ .blanked) : a.Acts (s.leaveFrame f running) :=
  h.onFace f (.link _ (.hunt running hl))

omit h in
theorem RxState.ne_blanked_of_holdsFrame {rx : RxState} (hr : rx.holdsFrame = true) : rx ≠ .blanked := by
  rintro rfl
  cases hr

theorem State.Acts.leaveFrame (f : Face) (running : Bool) (hr : (s.face f).link.rx.holdsFrame = true) :
    a.Acts (s.leaveFrame f running) := h.hunt f running (.inr (RxState.ne_blanked_of_holdsFrame hr))

theorem State.Acts.refuseShip (f : Face) (tag : Half) (r : AccessRefusal) : a.Acts (s.refuseShip f tag r) := by
  unfold State.refuseShip
  refine State.Acts.shipAnswer ?_ f tag _
  split
  · exact h.raiseFlag f _
  · exact h

theorem State.Acts.refuseFrame (f : Face) (tag : Half) (status : Status)
    (hr : (s.face f).link.rx.holdsFrame = true) : a.Acts (s.refuseFrame f tag status) := by
  have left := h.leaveFrame f false hr
  have flagged := left.raiseFlag f .frameError
  unfold State.refuseFrame
  dsimp only
  split
  · exact flagged.ite fun _ => flagged.shipAnswer f tag _
  · exact left.shipAnswer f tag _

/-! #### Emergency (R138, R141, R143) -/

theorem State.Acts.emergencyAction (f : Face) : a.Acts (s.emergencyAction f) := by
  have reported : a.Acts (s.onFace f fun x =>
      { x with grant := x.grant.emergency, planReports := x.planReports + 1 }) := h.onFace f .emergency
  exact (reported.mapStations _ fun c => (Station.Acts.refl _ c).withClaims _).latchFace f _ rfl

theorem State.Acts.activateEr (f : Face) : a.Acts (s.activateEr f) := (h.onFace f (.erLevel true)).emergencyAction f

theorem State.Acts.takePlanReportsTo (f : Face) (left : Nat) (hr : (s.face f).planReports ≠ 0) :
    a.Acts (s.takePlanReportsTo f left) := by
  have frozen : a.Acts (s.onFace f fun x => { x with planReports := left, sequencer := x.sequencer.frozen }) :=
    h.onFace f (.freeze left hr)
  exact frozen.ite fun _ => frozen.dropReports f

omit h in
/-- What the taking of the reports leaves of the face (R138). -/
theorem State.face_takePlanReportsTo (s : State) (f : Face) (left : Nat) :
    (s.takePlanReportsTo f left).face f =
      { s.face f with planReports := left, sequencer := (s.face f).sequencer.frozen } := by
  unfold State.takePlanReportsTo
  dsimp only
  split <;> simp [State.dropReports]

theorem State.Acts.takePlanReports (f : Face) : a.Acts (s.takePlanReports f) := by
  unfold State.takePlanReports
  split
  · exact h
  · next hr => exact h.takePlanReportsTo f 0 hr

omit h in
theorem State.face_takePlanReports (s : State) (f : Face) :
    ((s.takePlanReports f).face f).planReports = 0 ∧ ((s.takePlanReports f).face f).grant = (s.face f).grant := by
  unfold State.takePlanReports
  split
  · next hr => exact ⟨hr, rfl⟩
  · simp [State.face_takePlanReportsTo]

/-! #### Berth faces and plans -/

theorem State.Acts.vacated (f : Face) (hg : (s.face f).grant = .approach ∨ (s.face f).grant = .cleared) :
    a.Acts (s.vacated f) := by
  have claimless : a.Acts (s.mapStations (inWindow (s.face f).window) fun c => { c with releaseClaims := 0 }) :=
    h.mapStations _ fun c => (Station.Acts.refl _ c).withClaims 0
  obtain ⟨hr, hk⟩ := (s.mapStations (inWindow (s.face f).window) fun c =>
    { c with releaseClaims := 0 }).face_takePlanReports f
  refine (claimless.takePlanReports f).onFace f (g := fun x => { x with grant := .vacant, tag := 0 }) (.vacate ?_ hr)
  rw [hk, State.face_mapStations]
  exact hg

theorem State.Acts.putWindow (f : Face) {w : Option Window} (hg : (s.face f).grant = .vacant)
    (hv : ∀ v, w = some v → v.Valid) (hr : s.windowAll w Station.atRest = true)
    (ha : windowsMeet w (s.face (otherFace f)).window = false) : a.Acts (s.putWindow f w) := by
  refine ((h.dropReports f).move (.window f w ?_ hv (fun i hi => ?_) fun i hi => ?_)).dropReports f
  · rwa [State.dropReports, State.face_mapStations]
  · rw [State.dropReports, State.face_mapStations]
    exact windowsMeet_eq_false ha hi
  · have hrest : (s.st i).atRest = true := State.windowAll_iff.mp hr i hi
    rw [State.dropReports, State.st_mapStations]
    split <;> exact hrest

theorem State.Acts.abortPlan (f : Face) : a.Acts (s.abortPlan f) := (h.onFace f .abort).dropReports f

end

/-! ### How a command is let in -/

theorem State.Acts.does {s t : State} (h : s.Acts t) : s.Does t :=
  ⟨s.shore, t, h, rfl, by rw [h.sameFrame.2.2]; exact .stay⟩

/-- In reset the command changes nothing; out of reset it leads to a state of moves and a step of the port. -/
def DoesLive (s : State) (o : Out) : Prop := ∃ t, o = .next (if s.inReset then s else t) ∧ s.Does t

section
variable {s : State}

theorem doesLive {k : State → State} (h : s.Does (k s)) : DoesLive s (live s k) := ⟨k s, rfl, h⟩

theorem doesLive_acts {k : State → State} (h : s.Acts (k s)) : DoesLive s (live s k) := doesLive h.does

theorem doesLive_stationEvent (i : StationId) {g : Station → Station}
    (hg : ∀ free, (s.st i).Acts free (g (s.st i))) : DoesLive s (stationEvent i g s) :=
  doesLive_acts ((State.Acts.refl s).onLine i (hg _))

theorem ShorePort.phase_of_takes {p : ShorePort} {frame : List Byte} (h : p.takes frame = true) :
    p.phase = .receiving := by
  simp only [ShorePort.takes, Bool.and_eq_true, decide_eq_true_eq] at h
  exact h.1

/-- A request answered: the bits are handed on, the owner moves the part, and the port takes the answer. -/
theorem State.Acts.does_answer {t : State} (h : s.clearBits.Acts t) (hp : s.shore.phase = .receiving) (n : Nat)
    (o : Bool) (a : Answer) : s.Does (t.shoreAnswer n o a) := by
  refine ⟨_, t, h, rfl, ?_⟩
  rw [State.shore_shoreAnswer, h.sameFrame.2.2]
  exact .answer n o a hp

theorem doesLive_hostRequest (i : Instr) {k : State → State × Answer} (hk : s.clearBits.Acts (k s.clearBits).1) :
    DoesLive s (hostRequest i k s) := by
  refine doesLive ?_
  split
  · next frame _ =>
    split
    · next ht => exact hk.does_answer (ShorePort.phase_of_takes ht) _ _ _
    · exact (State.Acts.refl s).does
  · exact (State.Acts.refl s).does

/-- A host request that changes nothing but the port. -/
theorem doesLive_query (i : Instr) {k : State → State × Answer} (hk : (k s.clearBits).1 = s.clearBits) :
    DoesLive s (hostRequest i k s) :=
  doesLive_hostRequest i (by rw [hk]; exact State.Acts.refl _)

theorem doesLive_hostLine (i : Instr) (station : StationId) {g : Station → Station × Answer}
    (hg : ∀ free c, Station.Acts free c (g c).1) : DoesLive s (hostLine i station g s) := by
  refine doesLive_hostRequest i ?_
  dsimp only
  exact (State.Acts.refl s.clearBits).onLine station (hg _ _)

theorem doesLive_portRequest (i : Instr) (a : Answer) : DoesLive s (portRequest i a s) := by
  refine doesLive ?_
  split
  · split
    · next ht =>
      refine ⟨s.shore, s, State.Acts.refl s, rfl, ?_⟩
      rw [State.shore_shoreAnswer]
      exact .answer _ _ _ (ShorePort.phase_of_takes ht)
    · exact (State.Acts.refl s).does
  · exact (State.Acts.refl s).does

theorem doesLive_shipFrame (f : Face) (tag : Half) (mooring : Bool)
    {k : State → Except AccessRefusal (State × Answer)} (hk : ∀ s r, k s = .ok r → s.Acts r.1) :
    DoesLive s (shipFrame f tag mooring k s) := by
  refine doesLive_acts ((State.Acts.refl s).ite fun hr => ?_)
  have left := (State.Acts.refl s).leaveFrame f false hr
  dsimp only
  split
  · exact left.refuseShip f tag _
  · split
    · exact left.refuseShip f tag _
    · next r hkr => exact (left.trans (hk _ r hkr)).shipAnswer f tag _

theorem doesLive_shipLine (f : Face) (tag : Half) (selector : Byte) (mooring : Bool)
    {g : State → StationId → Station → Station × Answer}
    (hg : ∀ (s : State) i c, Station.Acts (fun t => s.tagTaken i t = false) c (g s i c).1) :
    DoesLive s (shipLine f tag selector mooring g s) := by
  refine doesLive_shipFrame f tag mooring fun s r hr => ?_
  dsimp only at hr
  split at hr
  · cases hr
  · next i _ =>
    cases hr
    exact (State.Acts.refl s).onLine i (g := fun _ => (g s i (s.st i)).1.shipChanged _) ((hg s i _).shipChanged _)

theorem doesLive_lineRequest (sender : LineBy) (i : Instr) (mooring : Bool)
    {g : Holder → State → StationId → Station → Station × Answer}
    (hg : ∀ holder (s : State) i c, Station.Acts (fun t => s.tagTaken i t = false) c (g holder s i c).1) :
    DoesLive s (lineRequest sender i mooring g s) := by
  unfold lineRequest
  cases sender with
  | host station =>
    refine doesLive_hostRequest i ?_
    dsimp only
    exact (State.Acts.refl s.clearBits).onLine station (hg _ _ _ _)
  | ship f tag selector => exact doesLive_shipLine f tag selector mooring (hg .ship)

/-- A claim of the sequencer of a record's face. -/
theorem doesLive_byFace (station : StationId) {claim : State → Face → State} (hk : ∀ f, s.PlanActs (claim s f)) :
    DoesLive s (live s fun s =>
      match s.faceOf station with
      | some f => claim s f
      | none => s) := by
  refine doesLive_acts ?_
  split
  · exact (hk _).acts
  · exact State.Acts.refl s

/-! ### Requests with a case of their own -/

theorem doesLive_execPayout (station : StationId) (target : Half) : DoesLive s (execPayout station target s) := by
  refine doesLive_hostRequest _ ?_
  dsimp only
  refine (State.Acts.refl s.clearBits).onLine station ?_
  have here := Station.Acts.refl (fun t => s.clearBits.tagTaken station t = false) (s.clearBits.st station)
  split
  · exact here.payoutFromStowed _ _
  · next hs => exact here.extendPayout _ hs
  · exact here

theorem doesLive_execClearFault (station : StationId) (target : Byte) :
    DoesLive s (execClearFault station target s) := by
  refine doesLive_hostRequest _ ?_
  dsimp only
  refine (State.Acts.refl s.clearBits).onLine station ?_
  have here := Station.Acts.refl (fun t => s.clearBits.tagTaken station t = false) (s.clearBits.st station)
  split
  · exact here
  · next hs =>
    split
    · exact here
    · exact here.clearFaultTo _ _ fun e => hs (by simp [e])

theorem doesLive_execAdopt (station : StationId) (target presence fittingTag : Byte) (low high : Half) :
    DoesLive s (execAdopt station target presence fittingTag low high s) := by
  refine doesLive_hostRequest _ ?_
  dsimp only
  refine (State.Acts.refl s.clearBits).onLine station ?_
  have here := Station.Acts.refl (fun t => s.clearBits.tagTaken station t = false) (s.clearBits.st station)
  split
  · exact here
  · next hs =>
    split
    · next ha =>
      obtain ⟨ht, hb⟩ := adoption_eq_some ha
      exact here.adoptTo _ _ _ (by simpa using hs) ht hb fun hd t ht => by simpa [ht] using hd
    · exact here

theorem doesLive_execQueryLine (sender : LineBy) : DoesLive s (execQueryLine sender s) := by
  unfold execQueryLine
  cases sender with
  | host i => exact doesLive_query _ rfl
  | ship f tag selector =>
    refine doesLive_shipFrame f tag false fun s r hr => ?_
    split at hr
    · cases hr
    · cases hr
      exact State.Acts.refl s

theorem doesLive_execWindowList (sender : FaceBy) : DoesLive s (execWindowList sender s) := by
  unfold execWindowList
  cases sender with
  | host f => exact doesLive_query _ rfl
  | ship f tag selector =>
    refine doesLive_shipFrame f tag false fun s r hr => ?_
    cases hr
    exact State.Acts.refl s

theorem doesLive_execSetWindow (face : Face) (base limit : Byte) : DoesLive s (execSetWindow face base limit s) := by
  refine doesLive_hostRequest _ ?_
  dsimp only
  split
  · exact State.Acts.refl _
  · next w hw =>
    split
    · exact State.Acts.refl _
    · next hg =>
      split
      · exact State.Acts.refl _
      · next hr =>
        split
        · exact State.Acts.refl _
        · next ha =>
          have hr : s.clearBits.windowAll (s.clearBits.face face).window Station.atRest = true ∧
              s.clearBits.windowAll w Station.atRest = true := by simpa using hr
          exact (State.Acts.refl s.clearBits).putWindow face (Classical.not_not.mp hg)
            (fun v hv => valid_of_windowOperand (hv ▸ hw)) hr.2 (by simpa using ha)

theorem doesLive_execArrive (face : Face) (tag : Half) : DoesLive s (execArrive face tag s) := by
  refine doesLive_hostRequest _ ?_
  dsimp only
  split
  · exact State.Acts.refl _
  · next hg =>
    split
    · exact State.Acts.refl _
    · next ht =>
      split
      · exact State.Acts.refl _
      · next hw =>
        split
        · exact State.Acts.refl _
        · split
          · exact State.Acts.refl _
          · dsimp only
            exact (State.Acts.refl s.clearBits).onFace face
              (.arrive tag (Classical.not_not.mp hg) (not_or.mp ht).1 (not_or.mp ht).2 hw)

theorem doesLive_execSecure (face : Face) : DoesLive s (execSecure face s) := by
  refine doesLive_hostRequest _ ?_
  dsimp only
  split
  · next hg =>
    dsimp only
    exact (State.Acts.refl s.clearBits).onFace face (.secure hg.1)
  · exact State.Acts.refl _

theorem doesLive_execVacate (face : Face) : DoesLive s (execVacate face s) := by
  refine doesLive_hostRequest _ ?_
  dsimp only
  split
  · exact State.Acts.refl _
  · next hg =>
    split
    · exact State.Acts.refl _
    · exact (State.Acts.refl s.clearBits).vacated face (Classical.not_not.mp hg)

/-- The list a SET_PLAN is checked for (R121, check 5). -/
theorem nodup_of_noRepeat {is : List StationId} (h : noRepeat is = true) : is.Nodup := by
  induction is with
  | nil => exact List.nodup_nil
  | cons i rest ih =>
    simp only [noRepeat, Bool.and_eq_true, decide_eq_true_eq] at h
    exact List.nodup_cons.mpr ⟨h.1, ih h.2⟩

theorem doesLive_execSetPlan (face : Face) (width : Byte) (timeout : Half) (stations : List Byte) :
    DoesLive s (execSetPlan face width timeout stations s) := by
  refine doesLive_hostRequest _ ?_
  dsimp only
  split
  · exact State.Acts.refl _
  · next hact =>
    split
    · exact State.Acts.refl _
    · split
      · exact State.Acts.refl _
      · split
        · exact State.Acts.refl _
        · split
          · exact State.Acts.refl _
          · next hn =>
            have settled := (State.PlanActs.refl s.clearBits).settleSeq face
            have hact : (s.clearBits.seq face).active = false := by simpa [State.seq] using hact
            dsimp only
            exact settled.acts.onFace face (.plan _ _ _ (settled.inactive hact) (nodup_of_noRepeat (by simpa using hn)))

theorem doesLive_execDepart (face : Face) : DoesLive s (execDepart face s) := by
  refine doesLive_hostRequest _ ?_
  dsimp only
  split
  · exact State.Acts.refl _
  · next hg =>
    split
    · exact State.Acts.refl _
    · have ready := ((State.PlanActs.refl s.clearBits).settleSeq face).dropReports face
      have departed := ready.acts.onFace face
        (g := fun x => { x with grant := .departing, planReports := 0, sequencer := x.sequencer.departed })
        (.depart (ready.moored (Classical.not_not.mp hg)))
      exact departed.ite fun _ => departed.plan ((State.PlanActs.refl _).walkMany _ face)

theorem doesLive_execPause (face : Face) : DoesLive s (execPause face s) := by
  refine doesLive_hostRequest _ ?_
  have settled := (State.PlanActs.refl s.clearBits).settleSeq face
  dsimp only
  split
  · exact State.Acts.refl s.clearBits
  · split
    · exact settled.acts
    · next hs =>
      have hs := Classical.not_not.mp hs
      exact (settled.paused face (by simp [Sequencer.active, hs])).acts

theorem doesLive_execResume (face : Face) : DoesLive s (execResume face s) := by
  refine doesLive_hostRequest _ ?_
  split
  · next hs => exact ((State.PlanActs.refl s.clearBits).resumed face (by simp [Sequencer.active, hs])).acts
  all_goals exact State.Acts.refl _

theorem doesLive_execAbortDepart (face : Face) : DoesLive s (execAbortDepart face s) := by
  refine doesLive_hostRequest _ ?_
  have settled := (State.PlanActs.refl s.clearBits).settleSeq face
  dsimp only
  split
  · exact State.Acts.refl s.clearBits
  · split
    · exact settled.acts
    · exact settled.acts.abortPlan face

/-- An accepted value of a face: the settings, and the settings kept for a mark in progress (R181, R182). -/
theorem State.Acts.putFaceSetting {a : State} (h : a.Acts s) (f : Face) (k : FaceItem) (v : Nat) :
    a.Acts (s.onFace f fun x => x.putSetting k v) := by
  have twice (y : FaceState) (l : Link) (hl : y.link = (s.face f).link)
      (hy : (s.face f).Move (s.face (otherFace f)).tag y) (hm : y.link.Move l) :
      a.Acts (s.setFace f { y with link := l }) := by
    have second : a.Acts ((s.setFace f y).setFace f { y with link := l }) := by
      refine (h.move (.face f y hy)).move (.face f _ ?_)
      rw [State.face_setFace_same]
      exact .link l hm
    cases f <;> exact second
  show a.Acts (s.setFace f ((s.face f).putSetting k v))
  unfold FaceState.putSetting
  split
  · exact h.move (.face f _ (.ofPlan (.attn _ rfl)))
  · split
    · exact twice { s.face f with settings := (s.face f).settings.put k v } _ rfl (.settings _) (.listen _ _)
    · exact h.move (.face f _ (.settings _))

theorem doesLive_execSetSetting (target : Scoped) (item : Byte) (value : Half) :
    DoesLive s (execSetSetting target item value s) := by
  refine doesLive_hostRequest _ ?_
  split
  · exact State.Acts.refl _
  · split
    · exact State.Acts.refl _
    · next hr =>
      dsimp only
      exact (State.Acts.refl s.clearBits).onLine _ ((Station.Acts.refl _ _).putSetting _ _ hr)
  · split
    · exact State.Acts.refl _
    · exact (State.Acts.refl s.clearBits).putFaceSetting _ _ _

theorem doesLive_execGetSetting (target : Scoped) (item : Byte) : DoesLive s (execGetSetting target item s) := by
  refine doesLive_query _ ?_
  split <;> rfl

theorem doesLive_execReadAttention (target : Scoped) : DoesLive s (execReadAttention target s) := by
  refine doesLive_query _ ?_
  split <;> rfl

/-- An acknowledgement leaves LINK_ERROR, a level (R173). -/
theorem FaceAttn.linkError_acknowledge (a : FaceAttn) (named : List FaceCondition) :
    (a.acknowledge named).linkError = a.linkError := by
  unfold FaceAttn.acknowledge
  induction named generalizing a with
  | nil => rfl
  | cons k rest ih =>
    rw [List.foldl_cons, ih]
    cases k <;> rfl

theorem doesLive_execAckAttention (target : Scoped) (codes : List Byte) :
    DoesLive s (execAckAttention target codes s) := by
  refine doesLive_hostRequest _ ?_
  split
  · split
    · exact State.Acts.refl _
    · dsimp only
      exact ((State.PlanActs.refl s.clearBits).setSt _ ((Station.Acts.refl _ _).acknowledge _)).acts
  · split
    · exact State.Acts.refl _
    · dsimp only
      exact ((State.PlanActs.refl s.clearBits).onFace _ (.attn _ (FaceAttn.linkError_acknowledge _ _))).acts
  all_goals exact State.Acts.refl _

theorem doesLive_execClearLinkStatus (face : Face) (flags : Byte) : DoesLive s (execClearLinkStatus face flags s) := by
  refine doesLive_hostRequest _ ?_
  dsimp only
  split
  · exact State.Acts.refl _
  · dsimp only
    exact (State.Acts.refl s.clearBits).onFace face (.flags _)

/-! ### Events with a case of their own -/

theorem doesLive_execEmergencyPlanReport (face : Face) : DoesLive s (execEmergencyPlanReport face s) := by
  refine doesLive_acts ?_
  dsimp only
  split
  · exact State.Acts.refl s
  · next hr => exact (State.Acts.refl s).takePlanReportsTo face _ hr

theorem doesLive_execClampConfirm (station : StationId) : DoesLive s (execClampConfirm station s) := by
  refine doesLive_stationEvent station fun free => ?_
  have here := Station.Acts.refl free (s.st station)
  split
  · split
    · exact here.readSwitches _
    · exact here
  · exact here

theorem doesLive_execSelectBegin (bits : List Bool) : DoesLive s (execSelectBegin s bits) := by
  refine doesLive ?_
  split
  · exact (State.Acts.refl s).does
  · exact ⟨s.shore, s, State.Acts.refl s, rfl, .select bits⟩

theorem doesLive_execSelectEnd : DoesLive s (execSelectEnd s) := by
  refine doesLive ?_
  split
  · exact ⟨s.shore, s, State.Acts.refl s, rfl, .deselect⟩
  · exact (State.Acts.refl s).does

theorem doesLive_execShoreFrameRefused (frame : List Byte) : DoesLive s (execShoreFrameRefused frame s) := by
  refine doesLive ?_
  split
  · next ht =>
    split
    · refine ⟨s.shore, s, State.Acts.refl s, rfl, ?_⟩
      rw [State.shore_shoreAnswer]
      exact .answer _ _ _ (ShorePort.phase_of_takes ht)
    all_goals exact (State.Acts.refl s).does
  · exact (State.Acts.refl s).does

theorem doesLive_execShipFrameRefused (face : Face) (frame : List Byte) :
    DoesLive s (execShipFrameRefused face frame s) := by
  refine doesLive_acts ((State.Acts.refl s).ite fun hr => ?_)
  split
  · exact (State.Acts.refl s).refuseFrame face _ _ hr
  all_goals exact State.Acts.refl s

theorem doesLive_execShipFrameError (face : Face) (signal : List Pulse) :
    DoesLive s (execShipFrameError face signal s) := by
  refine doesLive_acts ((State.Acts.refl s).ite fun hr => ?_)
  split
  · exact ((State.Acts.refl s).leaveFrame face _ hr).raiseFlag face _
  · exact State.Acts.refl s

theorem doesLive_execShipFrameDiscardEnd (face : Face) (signal : List Pulse) :
    DoesLive s (execShipFrameDiscardEnd face signal s) := by
  refine doesLive_acts ((State.Acts.refl s).ite fun hr => ?_)
  split
  · exact ((State.Acts.refl s).leaveFrame face _ hr).shipAnswer face _ _
  · exact State.Acts.refl s

theorem doesLive_execStartMarkAccepted (face : Face) (mark : Pulse) (marks changes : Nat) :
    DoesLive s (execStartMarkAccepted face mark s marks changes) := by
  refine doesLive_acts ?_
  dsimp only
  split
  · exact (State.Acts.refl s).ite fun hs => (State.Acts.refl s).onFace face (.link _ (.start _ hs.1))
  · exact State.Acts.refl s

/-! ### Every command -/

theorem exec_doesLive (c : Instr) (hp : c ≠ .powerOnReset) (hr : ∀ pins, c ≠ .resetEnd pins) :
    DoesLive s (exec c s) := by
  have here (free : Byte → Prop) (c : Station) : Station.Acts free c c := Station.Acts.refl free c
  cases c with dsimp only [exec]
  | powerOnReset => exact absurd rfl hp
  | resetEnd pins => exact absurd rfl (hr pins)
  | selectBegin bits => exact doesLive_execSelectBegin bits
  | selectEnd => exact doesLive_execSelectEnd
  | shoreFrameRefused frame => exact doesLive_execShoreFrameRefused frame
  | shipFrameRefused face frame => exact doesLive_execShipFrameRefused face frame
  | ident => exact doesLive_portRequest _ _
  | queryLine sender => exact doesLive_execQueryLine sender
  | windowList sender => exact doesLive_execWindowList sender
  | pushHold sender reason => exact doesLive_lineRequest sender _ _ fun _ _ _ _ => (here _ _).pushHold _
  | popHold sender => exact doesLive_lineRequest sender _ _ fun _ _ _ _ => (here _ _).popHold _
  | setBand station low high => exact doesLive_hostLine _ station fun _ _ => (here _ _).setBand _
  | requestBand face tag selector low high =>
    exact doesLive_shipLine face tag selector _ fun _ _ _ => (here _ _).requestBand _ _ _
  | markAttached sender fittingTag =>
    exact doesLive_lineRequest sender _ _ fun _ _ _ _ => (here _ _).markAttached _ _ _ id
  | payout station target => exact doesLive_execPayout station target
  | takeUp sender => exact doesLive_lineRequest sender _ _ fun _ _ _ _ => (here _ _).takeUp
  | lock station => exact doesLive_hostLine _ station fun _ _ => (here _ _).lock
  | unlock station => exact doesLive_hostLine _ station fun _ _ => (here _ _).unlock
  | release station =>
    refine doesLive_hostRequest _ ?_
    dsimp only
    exact (State.Acts.refl s.clearBits).onLine station ((here _ _).release _)
  | cancel station => exact doesLive_hostLine _ station fun _ _ => (here _ _).cancel
  | markClear sender => exact doesLive_lineRequest sender _ _ fun _ _ _ _ => (here _ _).markClear
  | clearFault station target => exact doesLive_execClearFault station target
  | adopt station target presence fittingTag low high =>
    exact doesLive_execAdopt station target presence fittingTag low high
  | setWindow face base limit => exact doesLive_execSetWindow face base limit
  | arrive face tag => exact doesLive_execArrive face tag
  | secure face => exact doesLive_execSecure face
  | vacate face => exact doesLive_execVacate face
  | queryFace face => exact doesLive_query _ rfl
  | setPlan face width timeout stations => exact doesLive_execSetPlan face width timeout stations
  | queryPlan face => exact doesLive_query _ rfl
  | depart face => exact doesLive_execDepart face
  | pause face => exact doesLive_execPause face
  | resume face => exact doesLive_execResume face
  | abortDepart face => exact doesLive_execAbortDepart face
  | emergencyRelease face => exact doesLive_hostRequest _ ((State.Acts.refl s.clearBits).emergencyAction face)
  | summary => exact doesLive_query _ rfl
  | readAttention target => exact doesLive_execReadAttention target
  | ackAttention target codes => exact doesLive_execAckAttention target codes
  | setClassMask mask => exact doesLive_hostRequest _ ((State.Acts.refl s.clearBits).move (.mask _ _))
  | clearLinkStatus face flags => exact doesLive_execClearLinkStatus face flags
  | setSetting target item value => exact doesLive_execSetSetting target item value
  | getSetting target item => exact doesLive_execGetSetting target item
  | erActivation face =>
    refine doesLive_acts ?_
    split
    · exact State.Acts.refl s
    · exact (State.Acts.refl s).activateEr face
  | erDeactivation face => exact doesLive_acts ((State.Acts.refl s).onFace face (.erLevel false))
  | releaseClaim station => exact doesLive_stationEvent station fun _ => (here _ _).releaseClaim
  | emergencyPlanReport face => exact doesLive_execEmergencyPlanReport face
  | tmSample station edges => exact doesLive_stationEvent station fun _ => (here _ _).move (.sample edges)
  | sensorFailed station => exact doesLive_stationEvent station fun _ => (here _ _).takeReport _
  | sensorRecovered station => exact doesLive_stationEvent station fun _ => (here _ _).takeReport _
  | bandDwell station side => exact doesLive_stationEvent station fun _ => (here _ _).takeBandDwell side
  | tendingCorrection station => exact doesLive_stationEvent station fun _ => (here _ _).takeReport _
  | partedLine station => exact doesLive_stationEvent station fun _ => (here _ _).takeReport _
  | lockTrip station => exact doesLive_stationEvent station fun _ => (here _ _).takeReport _
  | autoClear station => exact doesLive_stationEvent station fun _ => (here _ _).takeAutoClear
  | tensionEndCondition station => exact doesLive_stationEvent station fun _ => (here _ _).testCurrent _
  | encoderCount station levels => exact doesLive_stationEvent station fun _ => (here _ _).foldl_takeLevels levels
  | homeMarginSpent station => exact doesLive_stationEvent station fun _ => (here _ _).spendMargin
  | homeClosing station => exact doesLive_stationEvent station fun _ => (here _ _).homeCloses
  | homeOpening station => exact doesLive_stationEvent station fun _ => (here _ _).withDrive .homeOpens
  | durationExpiry station => exact doesLive_stationEvent station fun _ => (here _ _).expireDuration
  | stallExpiry station => exact doesLive_stationEvent station fun _ => (here _ _).expireStall
  | clampConfirm station => exact doesLive_execClampConfirm station
  | clampTimeout station => exact doesLive_stationEvent station fun _ => (here _ _).clampTimeout
  | clampChange station reading => exact doesLive_stationEvent station fun _ => (here _ _).readSwitches reading
  | easeLimitExpiry station => exact doesLive_stationEvent station fun _ => (here _ _).expireEaseLimit
  | stateReport station => exact doesLive_acts ((State.PlanActs.refl s).takeReportOf station _).acts
  | holdStackEmptied station => exact doesLive_acts ((State.PlanActs.refl s).takeReportOf station _).acts
  | walkClaim face => exact doesLive_acts ((State.PlanActs.refl s).walkOnce face).acts
  | startClaim station => exact doesLive_byFace station fun f => (State.PlanActs.refl s).startOnce f station
  | returnClaim station => exact doesLive_byFace station fun f => (State.PlanActs.refl s).returnOnce f station
  | stepTimerExpiry station => exact doesLive_byFace station fun f => (State.PlanActs.refl s).expireStep f station
  | shipFrameError face signal => exact doesLive_execShipFrameError face signal
  | shipFrameDiscardEnd face signal => exact doesLive_execShipFrameDiscardEnd face signal
  | answerTransmitStart face =>
    exact doesLive_acts ((State.Acts.refl s).ite fun hs =>
      (State.Acts.refl s).onFace face (.link _ (.transmit _ hs.1)))
  | answerSent face =>
    exact doesLive_acts ((State.Acts.refl s).ite fun _ => (State.Acts.refl s).onFace face (.link _ .sent))
  | turnaroundEnd face high =>
    exact doesLive_acts ((State.Acts.refl s).ite fun hs => (State.Acts.refl s).hunt face _ (.inl hs.2.1))
  | startMarkAccepted face mark marks changes => exact doesLive_execStartMarkAccepted face mark marks changes

end

end Sys2Proof.Machine
end

section
/-! PROOF. The laws of a sequencer, shown of every move of a sequencer. -/

namespace Sys2Proof.Machine

/-! ### Plans (R121, R127, R128, R130, R135) -/

/-- The three laws of one sequencer. -/
def Sequencer.Law (q : Sequencer) : Prop := q.WalkLaw ∧ q.WidthLaw ∧ q.TimerLaw

/-- An entry that stays as it is goes, where the timer law holds. -/
theorem Sequencer.TimerLaw.goes_self {q : Sequencer} (h : q.TimerLaw) {e : PlanEntry} (he : e ∈ q.entries) :
    e.Goes q.active e := ⟨rfl, rfl, fun _ => rfl, id, fun ht => ⟨ht, .inl (h.1 e he ht).1⟩⟩

/-- Entries that go each on their side of the cursor keep the laws of the plan. -/
theorem Sequencer.Law.map {q : Sequencer} (h : q.Law) {g : PlanEntry → PlanEntry}
    (hg : ∀ e ∈ q.entries, e.Goes q.active (g e)) : Sequencer.Law { q with entries := q.entries.map g } := by
  obtain ⟨⟨hnodup, hcursor, hbefore, hat, hafter⟩, hwidth, htimer, howed⟩ := h
  refine ⟨⟨?_, by simpa using hcursor, ?_, ?_, ?_⟩, ?_, ?_, howed⟩
  · have hs : (q.entries.map g).map PlanEntry.station = q.entries.map PlanEntry.station := by
      rw [List.map_map]
      exact List.map_congr_left fun e he => (hg e he).1
    rwa [hs]
  · intro x hx
    obtain ⟨e, he, rfl⟩ := List.mem_map.mp (List.map_take ▸ hx)
    rw [(hg e (List.mem_of_mem_take he)).2.1]
    exact hbefore e he
  · simp only [List.getElem?_map, Option.all_map]
    cases hk : q.entries[q.cursor]? with
    | none => rfl
    | some e =>
      rw [hk] at hat
      simpa [(hg e (List.mem_of_getElem? hk)).2.1] using hat
  · intro x hx
    obtain ⟨e, he, rfl⟩ := List.mem_map.mp (List.map_drop ▸ hx)
    have hwait := hafter e he
    rw [(hg e (List.mem_of_mem_drop he)).2.2.1 (by rw [hwait]; rfl), hwait]
  · refine Nat.le_trans ?_ hwidth
    simp only [Sequencer.inProgress, List.countP_map]
    exact List.countP_mono_left fun e he => (hg e he).2.2.2.1
  · intro x hx ht
    obtain ⟨e, he, rfl⟩ := List.mem_map.mp hx
    obtain ⟨ht, hp⟩ := (hg e he).2.2.2.2 ht
    have hact : q.active = true := (htimer e he ht).2
    exact ⟨hp.resolve_right (by simp [hact]), hact⟩

theorem Sequencer.Law.edit {q : Sequencer} (h : q.Law) {i : StationId} {g : PlanEntry → PlanEntry}
    (hg : ∀ e ∈ q.entries, e.station = i → e.Goes q.active (g e)) : (q.edit i g).Law := by
  refine h.map fun e he => ?_
  split
  · next hi => exact hg e he hi
  · exact h.2.2.goes_self he

theorem Sequencer.canLook_iff {q : Sequencer} :
    q.canLook = true ↔ q.state = .running ∧ q.inProgress < q.width ∧ q.cursor < q.entries.length := by
  simp [Sequencer.canLook, and_assoc]

/-- Where no station is listed twice, an edit of the station at the cursor is an edit at the cursor. -/
theorem Sequencer.edit_cursor {q : Sequencer} (hn : (q.entries.map PlanEntry.station).Nodup) {e : PlanEntry}
    (he : q.entries[q.cursor]? = some e) (g : PlanEntry → PlanEntry) :
    (q.edit e.station g).entries = q.entries.set q.cursor (g e) := by
  obtain ⟨hlt, hget⟩ := List.getElem?_eq_some_iff.mp he
  refine List.ext_getElem (by simp) fun k hk hk' => ?_
  have hk : k < q.entries.length := by simpa using hk
  simp only [Sequencer.edit, List.getElem_map, List.getElem_set]
  by_cases hc : q.cursor = k
  · subst hc
    simp [hget]
  · rw [if_neg hc, if_neg]
    intro hs
    refine hc ((List.getElem_inj (h₀ := by simpa using hlt) (h₁ := by simpa using hk) hn).mp ?_)
    simp [hget, hs]

/-- The entry at the cursor as a walk claim leaves it. -/
def Sequencer.walkedEntry (q : Sequencer) (status : EntryStatus) (e : PlanEntry) : PlanEntry :=
  { e with status := status, timer := if status.inProgress then some q.timeout else e.timer }

/-- A walk claim (R124, R125): the entry at the cursor takes a status, a place in the width and a timer. -/
theorem Sequencer.Law.walked {q : Sequencer} (h : q.Law) {i : StationId} (status : EntryStatus)
    (hl : q.canLook = true) (hc : q.cursorStation = some i) : (q.walked i status).Law := by
  obtain ⟨⟨hnodup, hcursor, hbefore, hat, hafter⟩, hwidth, htimer, howed⟩ := h
  obtain ⟨hrun, hroom, hlt⟩ := Sequencer.canLook_iff.mp hl
  obtain ⟨e, he, rfl⟩ := Option.map_eq_some_iff.mp hc
  have hget : q.entries[q.cursor] = e := (List.getElem?_eq_some_iff.mp he).2
  have hmem : e ∈ q.entries := List.mem_of_getElem? he
  have hstay : e.status.advances = false := by simpa [he] using hat
  have hidle : e.timer = none := by
    refine Classical.byContradiction fun hn => ?_
    have := (htimer e hmem (Option.isSome_iff_ne_none.mpr hn)).1
    cases hs : e.status <;> simp_all [EntryStatus.advances, EntryStatus.inProgress]
  have hentries : (q.walked e.station status).entries = q.entries.set q.cursor (q.walkedEntry status e) :=
    Sequencer.edit_cursor hnodup he (q.walkedEntry status)
  have hnext : (q.walked e.station status).cursor = if status.advances then q.cursor + 1 else q.cursor := rfl
  have hactive : (q.walked e.station status).active = true := by
    show q.active = true
    simp [Sequencer.active, hrun]
  refine ⟨⟨?_, ?_, ?_, ?_, ?_⟩, ?_, ?_, fun _ => howed (hactive ▸ rfl)⟩
  · rw [show (q.walked e.station status).entries.map PlanEntry.station = q.entries.map PlanEntry.station from
      q.stations_edit e.station fun _ => rfl]
    exact hnodup
  · rw [hentries, hnext, List.length_set]
    split <;> omega
  · rw [hentries, hnext]
    intro x hx
    split at hx
    · next ha =>
      rw [List.take_add_one, List.take_set_of_le (Nat.le_refl _)] at hx
      rcases List.mem_append.mp hx with hx | hx
      · exact hbefore x hx
      · simp only [List.getElem?_set_self hlt, Option.toList_some, List.mem_singleton] at hx
        subst hx
        exact ha
    · rw [List.take_set_of_le (Nat.le_refl _)] at hx
      exact hbefore x hx
  · rw [hentries, hnext]
    split
    · rw [List.getElem?_set_ne (by omega)]
      cases hk : q.entries[q.cursor + 1]? with
      | none => rfl
      | some x =>
        have hx : x ∈ q.entries.drop (q.cursor + 1) := List.mem_of_getElem? (i := 0) (by simpa using hk)
        simp [hafter x hx, EntryStatus.advances]
    · next ha => simpa [hlt, Sequencer.walkedEntry] using ha
  · rw [hentries, hnext]
    intro x hx
    refine hafter x ?_
    split at hx
    · rw [List.drop_set_of_lt (by omega)] at hx
      exact List.drop_subset_drop_left _ (by omega) hx
    · rwa [List.drop_set_of_lt (by omega)] at hx
  · show ((q.walked e.station status).entries.countP fun e => e.status.inProgress) ≤ q.width
    rw [hentries, List.countP_set hlt]
    have hone : (if (q.walkedEntry status e).status.inProgress then 1 else 0) ≤ 1 := by split <;> decide
    exact Nat.le_trans (Nat.add_le_add (Nat.sub_le _ _) hone) hroom
  · intro x hx ht
    refine ⟨?_, hactive⟩
    rw [hentries] at hx
    rcases List.mem_or_eq_of_mem_set hx with hx | rfl
    · exact (htimer x hx ht).1
    · refine Classical.byContradiction fun hp => ?_
      have hp : status.inProgress = false := by simpa [Sequencer.walkedEntry] using hp
      simp [Sequencer.walkedEntry, hp, hidle] at ht

theorem Sequencer.Law.move {q r : Sequencer} (h : q.Law) (m : Sequencer.Move q r) : r.Law := by
  obtain ⟨hwalk, hwidth, htimer, howed⟩ := h
  cases m with
  | control st walk starts hact =>
    exact ⟨hwalk, hwidth, fun e he ht => by rw [hact]; exact htimer e he ht, by rw [hact]; exact howed⟩
  | returns rs hr => exact ⟨hwalk, hwidth, htimer, fun hact => hr (howed hact)⟩
  | edit i g hg => exact Sequencer.Law.edit ⟨hwalk, hwidth, htimer, howed⟩ (hg ⟨hwalk.1, howed⟩)
  | walked i status hl hc => exact Sequencer.Law.walked ⟨hwalk, hwidth, htimer, howed⟩ status hl hc

theorem Sequencer.Law.moves {q r : Sequencer} (h : q.Law) (hm : Steps Sequencer.Move q r) : r.Law := by
  induction hm with
  | refl => exact h
  | tail _ m ih => exact ih.move m

/-- Every timer removed, and the sequencer not active. -/
theorem Sequencer.Law.stopped {q r : Sequencer} (h : q.Law) (he : r.entries = q.noTimers.entries)
    (hw : r.width = q.width) (hc : r.cursor = q.cursor) (ha : r.active = false) : r.Law := by
  have mapped : Sequencer.Law { q with entries := q.noTimers.entries } :=
    h.map fun e _ => ⟨rfl, rfl, fun _ => rfl, id, nofun⟩
  obtain ⟨hwalk, hwidth, -⟩ := mapped
  refine ⟨?_, ?_, fun e hm ht => ?_, fun e => absurd (ha.symm.trans e) (by decide)⟩
  · simpa only [Sequencer.WalkLaw, he, hc] using hwalk
  · simpa only [Sequencer.WidthLaw, Sequencer.inProgress, he, hw] using hwidth
  · rw [he] at hm
    obtain ⟨e, -, rfl⟩ := List.mem_map.mp hm
    cases ht

/-- A plan before its walk: the cursor at its start, every entry WAITING with no timer. -/
theorem Sequencer.Law.withEntriesWaiting {q : Sequencer} (hn : (q.entries.map PlanEntry.station).Nodup)
    (hc : q.cursor = 0) (hw : ∀ e ∈ q.entries, e.status = .waiting ∧ e.timer = none)
    (howed : q.returnsOwed = []) : q.Law := by
  refine ⟨⟨hn, by omega, by simp [hc], ?_, fun e he => (hw e (List.mem_of_mem_drop he)).1⟩, ?_, ?_, fun _ => howed⟩
  · cases hk : q.entries[q.cursor]? with
    | none => rfl
    | some e => simp [(hw e (List.mem_of_getElem? hk)).1, EntryStatus.advances]
  · have hnone : q.inProgress = 0 := by
      refine List.countP_eq_zero.mpr fun e he => ?_
      simp [(hw e he).1, EntryStatus.inProgress]
    exact Nat.le_trans (Nat.le_of_eq hnone) (Nat.zero_le _)
  · intro e he ht
    simp [(hw e he).2] at ht

end Sys2Proof.Machine
end

section
/-! PROOF. Every step of the part leads to a state of moves, to reset, or out of it; so a law that every move keeps is kept by
every step. -/

namespace Sys2Proof.Machine

/-! ### Out of reset (R158) -/

/-- The first levels of a record, before a closing of its home switch counts. -/
def Station.firstField (c : Station) (openMade closedMade : Bool) (encoder : EncoderLevels) : Station :=
  { c with drive := { c.drive with
      encoder := encoder
      reading := readingOf openMade closedMade
      field := fieldOfReading (readingOf openMade closedMade)
      homeClosed := false } }

/-- The first levels of the part, before a home closing, a mark or an activation counts. -/
def State.firstTaken (s : State) (pins : PinLevels) : State :=
  { s with
    inReset := false
    shore := { s.shore with selLow := pins.selLow }
    stations := Vector.ofFn fun i =>
      (s.st i).firstField (pins.openMade.getLsbD i.val) (pins.closedMade.getLsbD i.val)
        ⟨pins.encA.getLsbD i.val, pins.encB.getLsbD i.val⟩ }

@[simp] theorem State.st_firstTaken (s : State) (pins : PinLevels) (i : StationId) :
    (s.firstTaken pins).st i = (s.st i).firstField (pins.openMade.getLsbD i.val) (pins.closedMade.getLsbD i.val)
      ⟨pins.encA.getLsbD i.val, pins.encB.getLsbD i.val⟩ := by
  simp [State.firstTaken, State.st]

@[simp] theorem State.face_firstTaken (s : State) (pins : PinLevels) (f : Face) :
    (s.firstTaken pins).face f = s.face f := by
  cases f <;> rfl

/-- The records' first levels are the first fields, and then the home closings (R82). -/
theorem State.firstLevels_eq (s : State) (pins : PinLevels) :
    ({ s with
      inReset := false
      shore := { s.shore with selLow := pins.selLow }
      stations := Vector.ofFn fun i =>
        (s.st i).firstLevels (pins.homeClosed.getLsbD i.val) (pins.openMade.getLsbD i.val)
          (pins.closedMade.getLsbD i.val) ⟨pins.encA.getLsbD i.val, pins.encB.getLsbD i.val⟩ } : State) =
      (s.firstTaken pins).mapStations (fun i => pins.homeClosed.getLsbD i.val) Station.homeCloses := by
  refine State.ext_parts rfl ?_ (fun i => ?_) (fun f => ?_) ?_ ?_ ?_
  · rw [State.inReset_mapStations]
    rfl
  · rw [State.st_mapStations, State.st_firstTaken]
    simp [State.st, Station.firstLevels, Station.firstField]
  · rw [State.face_mapStations, State.face_firstTaken]
    cases f <;> rfl
  · rw [State.urgentMasked_mapStations]
    rfl
  · rw [State.routineMasked_mapStations]
    rfl
  · rw [State.shore_mapStations]
    rfl

theorem State.Acts.firstLight {a s : State} (h : a.Acts s) (f : Face) (high : Bool) :
    a.Acts (s.onFace f fun x => x.firstLight high) := by
  refine h.onFace f ?_
  exact .link _ (.listen _ (s.face f).link.earlier)

theorem execResetEnd_acts {s : State} (h : s.inReset = true) (pins : PinLevels) :
    ∃ t, execResetEnd pins s = .next t ∧ (s.firstTaken pins).Acts t := by
  refine ⟨_, if_pos h, ?_⟩
  rw [State.firstLevels_eq]
  have closed := (State.Acts.refl (s.firstTaken pins)).mapStations (fun i => pins.homeClosed.getLsbD i.val)
    fun c => (Station.Acts.refl _ c).homeCloses
  have lit := (closed.firstLight .north (pins.irrx.getLsbD 0)).firstLight .south (pins.irrx.getLsbD 1)
  have north := lit.ite (p := pins.er.getLsbD 0 = true) fun _ => lit.activateEr .north
  exact north.ite fun _ => north.activateEr .south

/-! ### Where a command leads -/

/-- What a command can lead to. -/
inductive State.Leads (s : State) : State → Prop
  | stay : State.Leads s s
  | reset : State.Leads s { State.reset with pending := s.pending, inReset := true }
  | begins (pins : PinLevels) {t : State} (h : s.inReset = true) (ht : (s.firstTaken pins).Acts t) : State.Leads s t
  | does {t : State} (h : s.inReset = false) (ht : s.Does t) : State.Leads s t

theorem DoesLive.leads {s : State} {o : Out} (h : DoesLive s o) : ∃ t, o = .next t ∧ s.Leads t := by
  obtain ⟨t, rfl, ht⟩ := h
  refine ⟨_, rfl, ?_⟩
  split
  · exact .stay
  · next hr => exact .does (by simpa using hr) ht

/-- Every command completes, and leads where a command can. -/
theorem exec_leads (c : Instr) (s : State) : ∃ t, exec c s = .next t ∧ s.Leads t := by
  by_cases hp : c = .powerOnReset
  · subst hp
    exact ⟨_, rfl, .reset⟩
  · by_cases hr : ∃ pins, c = .resetEnd pins
    · obtain ⟨pins, rfl⟩ := hr
      cases hin : s.inReset with
      | true =>
        obtain ⟨t, ht, hacts⟩ := execResetEnd_acts hin pins
        exact ⟨t, ht, .begins pins hin hacts⟩
      | false => exact ⟨s, by simp [exec, execResetEnd, hin], .stay⟩
    · exact (exec_doesLive c hp fun pins e => hr ⟨pins, e⟩).leads

theorem step_leads {s t : State} (h : step s = .next t) : t = s ∨ ∃ rest, State.Leads { s with pending := rest } t := by
  unfold step at h
  split at h
  · cases h
    exact .inl rfl
  · next c rest _ =>
    obtain ⟨u, hu, hl⟩ := exec_leads c { s with pending := rest }
    cases hu.symm.trans h
    exact .inr ⟨rest, hl⟩

/-! ### Laws of the records and the faces that every step keeps -/

/-- The records and the faces are the same. -/
def State.SameParts (s t : State) : Prop := (∀ i, t.st i = s.st i) ∧ ∀ f, t.face f = s.face f

theorem State.SameParts.of_fields {s t : State} (hs : t.stations = s.stations) (hn : t.northFace = s.northFace)
    (hm : t.southFace = s.southFace) : s.SameParts t :=
  ⟨fun i => by simp [State.st, hs], fun f => by cases f <;> simp [State.face, hn, hm]⟩

theorem State.sameParts_firstTaken (s : State) (rest : List Instr) (pins : PinLevels) :
    (s.firstTaken pins).SameParts ({ s with pending := rest }.firstTaken pins) := by
  refine ⟨fun i => ?_, fun f => by cases f <;> rfl⟩
  rw [State.st_firstTaken, State.st_firstTaken]
  rfl

/-- A property of the records and the faces that every move keeps, and that holds right after reset and of the first levels. -/
theorem step_keeps {p : State → Prop} {s t : State} (hmove : ∀ u v, State.Move u v → p u → p v)
    (hparts : ∀ u v : State, u.SameParts v → p u → p v) (hreset : p State.reset)
    (hfirst : s.inReset = true → ∀ pins, p (s.firstTaken pins)) (hs : p s) (ht : step s = .next t) : p t := by
  obtain rfl | ⟨rest, hl⟩ := step_leads ht
  · exact hs
  · have hrest : p { s with pending := rest } := hparts s _ (.of_fields rfl rfl rfl) hs
    cases hl with
    | stay => exact hrest
    | reset => exact hparts State.reset _ (.of_fields rfl rfl rfl) hreset
    | begins pins hr hacts => exact hacts.keeps hmove (hparts _ _ (s.sameParts_firstTaken rest pins) (hfirst hr pins))
    | does hr hdoes =>
      obtain ⟨port, u, hacts, he, -⟩ := hdoes
      have hu : p u := hacts.keeps hmove (hparts { s with pending := rest } _ (.of_fields rfl rfl rfl) hrest)
      rw [he]
      exact hparts u _ (.of_fields rfl rfl rfl) hu

/-! #### Records -/

/-- A law of one record that every move of a record keeps. -/
def KeptByMoves (law : Station → Prop) : Prop := ∀ free c d, Station.Move free c d → law c → law d

theorem State.Move.every {law : Station → Prop} (hlaw : KeptByMoves law) {s t : State} (m : State.Move s t)
    (h : s.Every law) : t.Every law := by
  have acts {free : Byte → Prop} {i : StationId} {c : Station} (hc : (s.st i).Acts free c) : law c :=
    hc.keeps (fun _ _ => hlaw _ _ _) (h i)
  intro j
  cases m with
  | ofPlan hp =>
    cases hp with
    | line i c hc =>
      rw [State.st_setSt]
      split
      · exact acts hc
      · exact h j
    | lines q g hg =>
      rw [State.st_mapStations]
      split
      · exact acts (hg _)
      · exact h j
    | face f x hx =>
      rw [State.st_setFace]
      exact h j
  | face f x hx =>
    rw [State.st_setFace]
    exact h j
  | window f w =>
    rw [State.st_onFace]
    exact h j
  | mask => exact h j

theorem State.SameParts.every {law : Station → Prop} {s t : State} (hp : s.SameParts t) (h : s.Every law) :
    t.Every law := fun i => hp.1 i ▸ h i

/-- A law of one record that every move keeps is kept by every step. -/
theorem step_every {law : Station → Prop} (hlaw : KeptByMoves law) (hreset : State.reset.Every law) {s t : State}
    (hfirst : s.inReset = true → ∀ pins, (s.firstTaken pins).Every law) (hs : s.Every law) (ht : step s = .next t) :
    t.Every law :=
  step_keeps (fun _ _ m => m.every hlaw) (fun _ _ hp => hp.every) hreset hfirst hs ht

/-- A law that does not name the drive but for payout and overrun holds of the first levels as it held before. -/
theorem State.every_firstTaken {law : Station → Prop} {s : State} (h : s.Every law) (pins : PinLevels)
    (hlaw : ∀ c o cl e, law c → law (Station.firstField c o cl e)) : (s.firstTaken pins).Every law := by
  intro i
  rw [State.st_firstTaken]
  exact hlaw _ _ _ _ (h i)

theorem State.every_reset {law : Station → Prop} (h : law Station.reset) : State.reset.Every law := by
  intro i
  simpa [State.st, State.reset] using h

/-! #### Faces -/

theorem State.face_setFace (s : State) (f g : Face) (x : FaceState) :
    (s.setFace f x).face g = if g = f then x else s.face g := by
  by_cases h : g = f
  · subst h
    simp
  · simp [h]

/-- A law of one face that every move of a face and a change of its window keep. -/
theorem State.Move.eachFace {law : FaceState → Prop}
    (hlaw : ∀ other x y, FaceState.Move other x y → law x → law y)
    (hwindow : ∀ x w, x.grant = .vacant → law x → law { x with window := w, sequencer := x.sequencer.emptied })
    {s t : State} (m : State.Move s t) (h : ∀ f, law (s.face f)) : ∀ f, law (t.face f) := by
  have put {f : Face} {x : FaceState} (hx : law x) : ∀ g, law ((s.setFace f x).face g) := fun g => by
    rw [State.face_setFace]
    split
    · exact hx
    · exact h g
  cases m with
  | ofPlan hp =>
    cases hp with
    | line i c hc => simpa using h
    | lines q g hg => simpa using h
    | face f x hx => exact put (hlaw 0 _ _ (.ofPlan hx) (h f))
  | face f x hx => exact put (hlaw _ _ _ hx (h f))
  | window f w hg => exact put (hwindow _ _ hg (h f))
  | mask =>
    intro f
    cases f with
    | north => exact h .north
    | south => exact h .south

theorem step_eachFace {law : FaceState → Prop} (hlaw : ∀ other x y, FaceState.Move other x y → law x → law y)
    (hwindow : ∀ x w, x.grant = .vacant → law x → law { x with window := w, sequencer := x.sequencer.emptied })
    (hreset : ∀ f, law (State.reset.face f)) {s t : State} (hs : ∀ f, law (s.face f)) (ht : step s = .next t) :
    ∀ f, law (t.face f) :=
  step_keeps (p := fun s => ∀ f, law (s.face f)) (fun _ _ m => m.eachFace hlaw hwindow)
    (fun _ _ hp h f => hp.2 f ▸ h f) hreset (fun _ pins f => by rw [State.face_firstTaken]; exact hs f) hs ht

/-! ### Reset (R158) -/

theorem State.Does.inReset {s t : State} (h : s.Does t) : t.inReset = s.inReset := by
  obtain ⟨port, u, hacts, he, -⟩ := h
  rw [he]
  exact hacts.sameFrame.2.1

theorem step_resetLaw {s t : State} (h : s.ResetLaw) (ht : step s = .next t) : t.ResetLaw := by
  obtain rfl | ⟨rest, hl⟩ := step_leads ht
  · exact h
  · have hrest : State.ResetLaw { s with pending := rest } := fun hr => by rw [h hr]
    cases hl with
    | stay => exact hrest
    | reset => exact fun _ => rfl
    | begins pins hr hacts =>
      intro hin
      cases hacts.sameFrame.2.1.symm.trans hin
    | does hr hdoes =>
      intro hin
      cases hr.symm.trans (hdoes.inReset.symm.trans hin)

theorem State.ResetLaw.st_eq {s : State} (h : s.ResetLaw) (hr : s.inReset = true) (i : StationId) :
    s.st i = Station.reset := by
  rw [h hr]
  simp [State.st, State.reset]

/-! ### The statements about the records -/

/-- The first levels of a record at its reset values: nothing is current, and the clamp does not travel (R96, R101). -/
theorem Station.driveAndClampLaw_firstReset (openMade closedMade : Bool) (encoder : EncoderLevels) :
    (Station.reset.firstField openMade closedMade encoder).DriveLaw ∧
      (Station.reset.firstField openMade closedMade encoder).ClampLaw := by
  exact ⟨by simp [Station.DriveLaw, Station.firstField, Station.reset, Drive.reset],
    by simp [Station.ClampLaw, Station.firstField, Station.reset, Drive.reset]⟩

theorem Station.driveAndClampLaw_reset : Station.reset.DriveLaw ∧ Station.reset.ClampLaw := by
  constructor <;> simp [Station.DriveLaw, Station.ClampLaw, Station.reset, Drive.reset, ClampField.travelling]

/-- Settles O55: every move of a record keeps the two laws of its drive together; out of reset the first levels are those of
records at their reset values, with both slots empty. -/
theorem everyStepKeepsDriveAndClampInOrder : Obligations.EveryStepKeepsDriveAndClampInOrder := by
  intro s t hreset hdrive hclamp ht
  have hboth : t.Every fun c => c.DriveLaw ∧ c.ClampLaw := by
    refine step_every (fun free c d m h => Station.driveAndClampLaw_move h m)
      (State.every_reset Station.driveAndClampLaw_reset) (fun hr pins i => ?_) (fun i => ⟨hdrive i, hclamp i⟩) ht
    rw [State.st_firstTaken, hreset.st_eq hr]
    exact Station.driveAndClampLaw_firstReset _ _ _
  exact ⟨step_resetLaw hreset ht, fun i => (hboth i).1, fun i => (hboth i).2⟩

theorem Station.holdLaw_reset : Station.reset.HoldLaw := ⟨Nat.zero_le _, fun _ => rfl⟩

theorem Station.fieldLaw_reset : Station.reset.FieldLaw := by
  simp [Station.FieldLaw, Station.reset]

theorem Station.sampleLaw_reset : Station.reset.SampleLaw :=
  ⟨Nat.zero_le _, Nat.zero_lt_succ _, fun _ => rfl, fun _ => rfl, nofun⟩

theorem Station.levelLaw_reset : Station.reset.LevelLaw := by
  simp [Station.LevelLaw, Station.reset, Monitor.reset]

theorem Station.payoutLaw_reset : Station.reset.PayoutLaw := ⟨rfl, Nat.zero_le _⟩

/-- Settles O56: each law of a record is kept by every move of a record. -/
theorem everyStepKeepsTheRecordsInOrder : Obligations.EveryStepKeepsTheRecordsInOrder := by
  intro s t hhold hfield hsample hlevel hpayout ht
  have kept {law : Station → Prop} (hlaw : KeptByMoves law) (hreset : law Station.reset)
      (hfirst : ∀ c o cl e, law c → law (Station.firstField c o cl e)) (h : s.Every law) : t.Every law :=
    step_every hlaw (State.every_reset hreset) (fun _ pins => State.every_firstTaken h pins hfirst) h ht
  exact ⟨kept (fun _ _ _ m h => h.move m) Station.holdLaw_reset (fun _ _ _ _ h => h) hhold,
    kept (fun _ _ _ m h => h.move m) Station.fieldLaw_reset (fun _ _ _ _ h => h) hfield,
    kept (fun _ _ _ m h => h.move m) Station.sampleLaw_reset (fun _ _ _ _ h => h) hsample,
    kept (fun _ _ _ m h => h.move m) Station.levelLaw_reset (fun _ _ _ _ h => h) hlevel,
    kept (fun _ _ _ m h => h.move m) Station.payoutLaw_reset (fun _ _ _ _ h => h) hpayout⟩

/-! ### The statement about plans (R107, R111, R121, R127, R128, R130, R135) -/

/-- The laws of a face's plan. -/
def FaceState.PlanLaw (x : FaceState) : Prop := x.sequencer.Law ∧ x.DepartureLaw

/-- A complete plan has no entry in progress, and so no timer (R131). -/
theorem Sequencer.Law.done {q : Sequencer} (h : q.Law) (hc : q.complete = true) :
    (Sequencer.dropOwed { q with state := .done }).Law := by
  obtain ⟨hwalk, hwidth, htimer, -⟩ := h
  refine ⟨hwalk, hwidth, fun e he ht => ?_, nofun⟩
  have hp : e.status.inProgress = true := (htimer e he ht).1
  have hf : e.status.finished = true := List.all_eq_true.mp (Bool.and_eq_true_iff.mp hc).2 e he
  cases hs : e.status <;> rw [hs] at hp hf <;> cases hp <;> cases hf

theorem Sequencer.active_frozen (q : Sequencer) : q.frozen.active = false := by
  unfold Sequencer.frozen
  split
  · rfl
  · next ha => simpa using ha

theorem Sequencer.Law.frozen {q : Sequencer} (h : q.Law) : q.frozen.Law := by
  unfold Sequencer.frozen
  split
  · exact h.stopped rfl rfl rfl rfl
  · exact h

theorem Sequencer.Law.departed {q : Sequencer} (h : q.Law) : q.departed.Law := by
  refine Sequencer.Law.withEntriesWaiting ?_ rfl ?_ rfl
  · simpa [Sequencer.departed, Sequencer.look, List.map_map, Function.comp_def] using h.1.1
  · simp [Sequencer.departed, Sequencer.look]

theorem Sequencer.Law.planned {q : Sequencer} (width timeout : Nat) {is : List StationId} (hn : is.Nodup) :
    (q.planned width timeout is).Law := by
  refine Sequencer.Law.withEntriesWaiting ?_ rfl ?_ rfl
  · simpa [Sequencer.planned, List.map_map, Function.comp_def, PlanEntry.fresh] using hn
  · simp [Sequencer.planned, PlanEntry.fresh]

theorem Sequencer.Law.emptied (q : Sequencer) : q.emptied.Law :=
  Sequencer.Law.withEntriesWaiting List.nodup_nil rfl nofun rfl

theorem FaceState.DepartureLaw.of_same {x y : FaceState} (h : x.DepartureLaw) (hg : y.grant = x.grant)
    (ha : y.sequencer.active = x.sequencer.active) (hr : y.planReports = x.planReports) : y.DepartureLaw := by
  unfold FaceState.DepartureLaw
  rw [hg, ha, hr]
  exact h

/-- A face that is not DEPARTING, with its sequencer IDLE or DONE. -/
theorem FaceState.departureLaw_of_inactive {x : FaceState} (hg : x.grant ≠ .departing)
    (ha : x.sequencer.active = false) : x.DepartureLaw :=
  ⟨fun e => absurd e hg, fun e => absurd (ha.symm.trans e) (by decide)⟩

theorem FaceState.PlanLaw.planMove {x y : FaceState} (h : x.PlanLaw) (m : x.PlanMove y) : y.PlanLaw := by
  obtain ⟨hq, hd⟩ := h
  cases m with
  | sequencer q hm => exact ⟨hq.moves hm, hd.of_same rfl (Sequencer.active_of_moves hm) rfl⟩
  | done hc =>
    refine ⟨hq.done hc, FaceState.departureLaw_of_inactive ?_ rfl⟩
    dsimp only
    split
    · decide
    · next hg => exact hg
  | attn a => exact ⟨hq, hd⟩

theorem FaceState.PlanLaw.move {other : Half} {x y : FaceState} (h : x.PlanLaw) (m : FaceState.Move other x y) :
    y.PlanLaw := by
  obtain ⟨hq, hdep, hact⟩ := h
  have idle (hd : x.grant ≠ .departing) (hc : x.grant = .cleared → x.planReports = 0) :
      x.sequencer.active = false := by
    refine Classical.byContradiction fun ha => ?_
    obtain hg | ⟨hg, hr⟩ := hact (by simpa using ha)
    · exact hd hg
    · exact absurd (hc hg) (Nat.ne_of_gt hr)
  cases m with
  | ofPlan hp => exact FaceState.PlanLaw.planMove ⟨hq, hdep, hact⟩ hp
  | link | flags | settings | erLevel => exact ⟨hq, hdep, hact⟩
  | emergency =>
    refine ⟨hq, fun e => ?_, fun ha => .inr ⟨?_, Nat.zero_lt_succ _⟩⟩
    · cases hg : x.grant <;> simp [hg, GrantState.emergency] at e
    · obtain hg | ⟨hg, -⟩ := hact ha <;> simp [hg, GrantState.emergency]
  | freeze left hr =>
    exact ⟨hq.frozen, FaceState.departureLaw_of_inactive (fun e => hr (hdep e).2) (Sequencer.active_frozen _)⟩
  | abort =>
    refine ⟨hq.stopped rfl rfl rfl rfl, FaceState.departureLaw_of_inactive ?_ rfl⟩
    dsimp only
    split
    · decide
    · next hg => exact hg
  | depart hg => exact ⟨hq.departed, fun _ => ⟨rfl, rfl⟩, fun _ => .inl rfl⟩
  | plan width timeout is ha hn =>
    refine ⟨.planned width timeout hn, FaceState.departureLaw_of_inactive (fun e => ?_) rfl⟩
    cases ha.symm.trans (hdep e).1
  | arrive tag hg => exact ⟨hq, FaceState.departureLaw_of_inactive nofun (idle (by simp [hg]) (by simp [hg]))⟩
  | secure hg => exact ⟨hq, FaceState.departureLaw_of_inactive nofun (idle (by simp [hg]) (by simp [hg]))⟩
  | vacate hg hr =>
    refine ⟨hq, FaceState.departureLaw_of_inactive nofun (idle ?_ fun _ => hr)⟩
    rcases hg with hg | hg <;> simp [hg]

theorem FaceState.planLaw_reset (f : Face) : (State.reset.face f).PlanLaw := by
  have here : FaceState.reset.PlanLaw :=
    ⟨.withEntriesWaiting List.nodup_nil rfl nofun rfl, FaceState.departureLaw_of_inactive nofun rfl⟩
  cases f <;> exact here

/-- Settles O59: the laws of a sequencer are kept by each of its moves, and its face is DEPARTING with it. -/
theorem everyStepKeepsPlansInOrder : Obligations.EveryStepKeepsPlansInOrder := by
  intro s t hs ht
  have hplans : ∀ f, (s.face f).PlanLaw := fun f =>
    have ⟨hwalk, hwidth, htimer, hdep⟩ := hs f
    ⟨⟨hwalk, hwidth, htimer⟩, hdep⟩
  have hkept := step_eachFace (fun _ _ _ m h => h.move m)
    (fun x w hg h => ⟨.emptied _, FaceState.departureLaw_of_inactive (by simp [hg]) rfl⟩)
    FaceState.planLaw_reset hplans ht
  intro f
  obtain ⟨⟨hwalk, hwidth, htimer⟩, hdep⟩ := hkept f
  exact ⟨hwalk, hwidth, htimer, hdep⟩

/-! ### The statement about links and the port (R158, R167, R174, R186, R188, R189) -/

theorem Link.SlotLaw.move {l m : Link} (h : l.SlotLaw) (hm : l.Move m) : m.SlotLaw ∧ m.flags = l.flags := by
  obtain ⟨hsend, hwait⟩ := h
  cases hm with
  | hunt running hl =>
    refine ⟨⟨fun e => ?_, hwait⟩, rfl⟩
    rcases hl with hl | hl
    · cases hl.symm.trans e
    · exact absurd (hsend e).2 hl
  | handOver t =>
    unfold Link.handOver
    split
    · exact ⟨⟨fun e => ⟨rfl, (hsend e).2⟩, fun _ => rfl⟩, rfl⟩
    · next hc => exact ⟨⟨hsend, fun _ => by simp [hc]⟩, rfl⟩
  | start u hr =>
    refine ⟨⟨fun e => ?_, hwait⟩, rfl⟩
    cases hr.symm.trans (hsend e).2
  | transmit u hc => exact ⟨⟨fun _ => ⟨hc, rfl⟩, hwait⟩, rfl⟩
  | sent => exact ⟨⟨nofun, nofun⟩, rfl⟩
  | listen => exact ⟨⟨hsend, hwait⟩, rfl⟩

/-- The laws of a face's link. -/
def FaceState.LinkLaw (x : FaceState) : Prop := x.attn.linkError = x.link.flags.anySet ∧ x.link.SlotLaw

theorem FaceState.LinkLaw.move {other : Half} {x y : FaceState} (h : x.LinkLaw) (m : FaceState.Move other x y) :
    y.LinkLaw := by
  obtain ⟨herr, hslot⟩ := h
  cases m with
  | ofPlan hp =>
    cases hp with
    | sequencer | done => exact ⟨herr, hslot⟩
    | attn a ha => exact ⟨ha.trans herr, hslot⟩
  | link l hl =>
    obtain ⟨hs, hf⟩ := hslot.move hl
    exact ⟨by rw [hf]; exact herr, hs⟩
  | flags l => exact ⟨rfl, hslot⟩
  | settings | erLevel | emergency | freeze | abort | depart | plan | arrive | secure | vacate => exact ⟨herr, hslot⟩

theorem FaceState.linkLaw_reset (f : Face) : (State.reset.face f).LinkLaw := by
  have here : FaceState.reset.LinkLaw := ⟨rfl, nofun, nofun⟩
  cases f <;> exact here

/-- R174 of the port alone. -/
def ShorePort.Law (p : ShorePort) : Prop :=
  (p.selLow = false → p.phase = .idle) ∧ (p.answer.isSome ↔ p.phase = .answering) ∧
    (p.phase = .receiving → p.bitCount = p.received.length) ∧ (p.phase ≠ .receiving → p.received = [])

theorem ShorePort.law_reset : ShorePort.reset.Law := by
  simp [ShorePort.Law, ShorePort.reset]

theorem ShorePort.Law.step {p q : ShorePort} (h : p.Law) (hs : p.Step q) : q.Law := by
  cases hs with
  | stay => exact h
  | answer n o a hr =>
    refine ⟨fun e => ?_, by simp, nofun, fun _ => rfl⟩
    cases hr.symm.trans (h.1 e)
  | select bits => exact ⟨nofun, by simp [ShorePort.reset], fun _ => rfl, fun e => absurd rfl e⟩
  | deselect => exact ShorePort.law_reset

/-- A SEL_N found low at the end of reset leaves the port IDLE (R174). -/
theorem State.ResetLaw.firstPort {s : State} (h : s.ResetLaw) (hr : s.inReset = true) (low : Bool) :
    ShorePort.Law { s.shore with selLow := low } := by
  have hport : s.shore = ShorePort.reset := by
    rw [h hr]
    rfl
  rw [hport]
  simp [ShorePort.Law, ShorePort.reset]

theorem step_portLaw {s t : State} (hr : s.ResetLaw) (h : s.PortLaw) (ht : step s = .next t) : t.PortLaw := by
  obtain rfl | ⟨rest, hl⟩ := step_leads ht
  · exact h
  · cases hl with
    | stay => exact h
    | reset => exact ShorePort.law_reset
    | begins pins hin hacts =>
      have hport : t.shore = { s.shore with selLow := pins.selLow } := hacts.sameFrame.2.2
      show t.shore.Law
      rw [hport]
      exact hr.firstPort hin _
    | does hin hdoes =>
      obtain ⟨port, u, -, -, hs⟩ := hdoes
      exact ShorePort.Law.step (p := s.shore) h hs

/-- Settles O60: LINK_ERROR is written with the flags alone, a link's moves keep its slots in order, and the port takes an
answer only while it is RECEIVING. -/
theorem everyStepKeepsLinksAndPort : Obligations.EveryStepKeepsLinksAndPort := by
  intro s t hreset herror hslot hport ht
  have hlinks := step_eachFace (law := FaceState.LinkLaw) (fun _ _ _ m h => h.move m) (fun _ _ _ h => h)
    FaceState.linkLaw_reset (fun f => ⟨herror f, hslot f⟩) ht
  exact ⟨step_resetLaw hreset ht, fun f => (hlinks f).1, fun f => (hlinks f).2, step_portLaw hreset hport ht⟩

end Sys2Proof.Machine
end

section
/-! PROOF. R3, R4, R5, R105, R108, R115 over the part: windows, tags and grants under every move. -/

namespace Sys2Proof.Machine

/-! ### What a move of a face does to its berth -/

/-- The grant, the tag and the window of a face: VACANT exactly while the tag is 0, and VACANT without a window. -/
def FaceState.BerthLaw (x : FaceState) : Prop := (x.grant = .vacant ↔ x.tag = 0) ∧ (x.window = none → x.grant = .vacant)

theorem FaceState.PlanMove.berth {x y : FaceState} (m : x.PlanMove y) :
    y.window = x.window ∧ y.tag = x.tag ∧ (y.grant = .vacant ↔ x.grant = .vacant) := by
  cases m with
  | sequencer | attn => exact ⟨rfl, rfl, Iff.rfl⟩
  | done =>
    refine ⟨rfl, rfl, ?_⟩
    dsimp only
    split
    · next hg => simp [hg]
    · exact Iff.rfl

theorem FaceState.Move.window_eq {other : Half} {x y : FaceState} (m : FaceState.Move other x y) :
    y.window = x.window := by
  cases m with
  | ofPlan hp => exact hp.berth.1
  | _ => rfl

/-- A tag that changes becomes 0, or one that the other face does not have. -/
theorem FaceState.Move.tag_cases {other : Half} {x y : FaceState} (m : FaceState.Move other x y) :
    y.tag = x.tag ∨ y.tag = 0 ∨ y.tag ≠ other := by
  cases m with
  | ofPlan hp => exact .inl hp.berth.2.1
  | arrive tag hg h0 ho => exact .inr (.inr ho)
  | vacate => exact .inr (.inl rfl)
  | _ => exact .inl rfl

theorem FaceState.BerthLaw.of_same {x y : FaceState} (h : x.BerthLaw) (hw : y.window = x.window) (ht : y.tag = x.tag)
    (hg : y.grant = .vacant ↔ x.grant = .vacant) : y.BerthLaw := by
  unfold FaceState.BerthLaw
  rw [hw, ht, hg]
  exact h

theorem GrantState.emergency_eq_vacant_iff (g : GrantState) : g.emergency = .vacant ↔ g = .vacant := by
  cases g <;> simp [GrantState.emergency]

theorem FaceState.BerthLaw.move {other : Half} {x y : FaceState} (h : x.BerthLaw) (m : FaceState.Move other x y) :
    y.BerthLaw := by
  cases m with
  | ofPlan hp =>
    obtain ⟨hw, ht, hg⟩ := hp.berth
    exact h.of_same hw ht hg
  | link | flags | settings | erLevel | freeze | plan => exact h
  | emergency => exact h.of_same rfl rfl x.grant.emergency_eq_vacant_iff
  | abort =>
    refine h.of_same rfl rfl ?_
    dsimp only
    split
    · next hg => simp [hg]
    · exact Iff.rfl
  | depart hg => exact h.of_same rfl rfl (by simp [hg])
  | arrive tag hg h0 ho hw => exact ⟨⟨nofun, fun e => absurd e h0⟩, fun e => absurd e hw⟩
  | secure hg => exact h.of_same rfl rfl (by simp [hg])
  | vacate => exact ⟨by simp, fun _ => rfl⟩

theorem FaceState.berthLaw_reset (f : Face) : (State.reset.face f).BerthLaw := by
  have here : FaceState.reset.BerthLaw := ⟨by simp [FaceState.reset], fun _ => rfl⟩
  cases f <;> exact here

/-! ### No tag at both faces (R108) -/

/-- No tag but 0 stands at both faces. -/
def State.TagsApart (s : State) : Prop := ∀ f, (s.face f).tag = (s.face (otherFace f)).tag → (s.face f).tag = 0

theorem State.grantLaw_iff (s : State) : s.GrantLaw ↔ (∀ f, (s.face f).BerthLaw) ∧ s.TagsApart := by
  constructor
  · rintro ⟨hv, hw, hn⟩
    refine ⟨fun f => ⟨hv f, hw f⟩, fun f e => ?_⟩
    cases f with
    | north => exact hn e
    | south => exact e.trans (hn e.symm)
  · rintro ⟨hb, ha⟩
    exact ⟨fun f => (hb f).1, fun f => (hb f).2, ha .north⟩

theorem State.TagsApart.of_tag_eq {s t : State} (h : s.TagsApart) (ht : ∀ f, (t.face f).tag = (s.face f).tag) :
    t.TagsApart := by
  intro f
  rw [ht, ht]
  exact h f

theorem State.TagsApart.setFace {s : State} (h : s.TagsApart) (f : Face) {x : FaceState}
    (hx : x.tag = (s.face f).tag ∨ x.tag = 0 ∨ x.tag ≠ (s.face (otherFace f)).tag) : (s.setFace f x).TagsApart := by
  have here : x.tag = (s.face (otherFace f)).tag → x.tag = 0 := fun e => by
    rcases hx with hx | hx | hx
    · rw [hx] at e ⊢
      exact h f e
    · exact hx
    · exact absurd e hx
  intro g
  by_cases e : g = f
  · subst e
    rw [State.face_setFace_same, State.face_setFace_ne s x (otherFace_ne g)]
    exact here
  · rw [eq_otherFace_of_ne e, otherFace_otherFace, State.face_setFace_same, State.face_setFace_ne s x (otherFace_ne f)]
    exact fun he => he.trans (here he.symm)

theorem State.Move.tagsApart {s t : State} (m : State.Move s t) (h : s.TagsApart) : t.TagsApart := by
  cases m with
  | ofPlan hp =>
    cases hp with
    | line i c hc => exact h.of_tag_eq (by simp)
    | lines q g hg => exact h.of_tag_eq (by simp)
    | face f x hx => exact h.setFace f (.inl hx.berth.2.1)
  | face f x hx => exact h.setFace f hx.tag_cases
  | window f w => exact h.setFace f (.inl rfl)
  | mask => exact h.of_tag_eq fun f => by cases f <;> rfl

/-! ### Windows (R105) -/

theorem State.WindowLaw.setFace {s : State} (h : s.WindowLaw) (f : Face) {x : FaceState}
    (hx : x.window = (s.face f).window) : (s.setFace f x).WindowLaw := by
  refine h.of_window_eq fun g => ?_
  rw [State.face_setFace]
  split
  · next e =>
    rw [hx, e]
  · rfl

/-- A valid window apart from the other face's. -/
theorem State.WindowLaw.putWindow {s : State} (h : s.WindowLaw) (f : Face) {x : FaceState}
    (hv : ∀ w, x.window = some w → w.Valid)
    (ha : ∀ i, inWindow x.window i = true → inWindow (s.face (otherFace f)).window i = false) :
    (s.setFace f x).WindowLaw := by
  rw [State.windowLaw_iff] at h ⊢
  obtain ⟨hvalid, happart⟩ := h
  constructor
  · intro g w hw
    rw [State.face_setFace] at hw
    split at hw
    · exact hv w hw
    · exact hvalid g w hw
  · intro g i hi
    by_cases e : g = f
    · subst e
      rw [State.face_setFace_ne s x (otherFace_ne g)]
      rw [State.face_setFace_same] at hi
      exact ha i hi
    · rw [eq_otherFace_of_ne e] at hi ⊢
      rw [State.face_setFace_ne s x (otherFace_ne f)] at hi
      rw [otherFace_otherFace, State.face_setFace_same]
      refine Classical.byContradiction fun hn => ?_
      exact Bool.false_ne_true ((ha i (by simpa using hn)).symm.trans hi)

theorem State.Move.windowLaw {s t : State} (m : State.Move s t) (h : s.WindowLaw) : t.WindowLaw := by
  cases m with
  | ofPlan hp =>
    cases hp with
    | line i c hc => exact h.of_window_eq (by simp)
    | lines q g hg => exact h.of_window_eq (by simp)
    | face f x hx => exact h.setFace f hx.berth.1
  | face f x hx => exact h.setFace f hx.window_eq
  | window f w hg hv ha hr => exact h.putWindow f hv ha
  | mask => exact h.of_window_eq fun f => by cases f <;> rfl

/-! ### Fitting tags (R4) -/

/-- A tag that is free for a record is carried by no other record of its window. -/
theorem State.fittingTag_ne_of_free {s : State} (h : s.WindowLaw) {f : Face} {i j : StationId}
    (hi : inWindow (s.face f).window i = true) (hj : inWindow (s.face f).window j = true) (hne : j ≠ i) {t : Byte}
    (ht : s.tagTaken i t = false) : (s.st j).fittingTag ≠ some t := by
  intro e
  simp only [State.tagTaken, State.faceOf_of_inWindow h hi, List.any_eq_false, mem_windowStations] at ht
  exact absurd (ht j hj) (by simp [hne, e])

/-- Where a record keeps its tag or takes a free one, no tag is carried twice. -/
theorem State.UniqueTags.setSt {s : State} (h : s.UniqueTags) (hw : s.WindowLaw) (i : StationId) {c : Station}
    (hc : c.fittingTag = (s.st i).fittingTag ∨ ∀ t, c.fittingTag = some t → s.tagTaken i t = false) :
    (s.setSt i c).UniqueTags := by
  have apart (f : Face) (j : StationId) (hi : inWindow (s.face f).window i = true)
      (hj : inWindow (s.face f).window j = true) (hne : j ≠ i) (t : Byte) (ht : c.fittingTag = some t) :
      (s.st j).fittingTag ≠ some t := by
    rcases hc with hc | hc
    · exact h f i j hi hj hne.symm t (hc ▸ ht)
    · exact State.fittingTag_ne_of_free hw hi hj hne (hc t ht)
  intro f j k hj hk hne t ht
  rw [State.face_setSt] at hj hk
  rw [State.st_setSt] at ht ⊢
  split at ht
  · next e =>
    subst e
    rw [if_neg hne.symm]
    exact apart f k hj hk hne.symm t ht
  · next e =>
    split
    · next e' =>
      subst e'
      exact fun hk' => apart f j hk hj e t hk' ht
    · exact h f j k hj hk hne t ht

/-- Where each record keeps its tag or loses it, and the windows stand, no tag is carried twice. -/
theorem State.UniqueTags.of_fewer {s t : State} (h : s.UniqueTags) (hw : ∀ f, (t.face f).window = (s.face f).window)
    (hs : ∀ i u, (t.st i).fittingTag = some u → (s.st i).fittingTag = some u) : t.UniqueTags := by
  intro f j k hj hk hne u hu hk'
  rw [hw] at hj hk
  exact h f j k hj hk hne u (hs j u hu) (hs k u hk')

/-- A record at rest carries no tag. -/
theorem Station.TagLaw.fittingTag_of_atRest {c : Station} (h : c.TagLaw) (hr : c.atRest = true) :
    c.fittingTag = none := by
  have hs : c.state = .stowed ∨ c.state = .halted := by simpa [Station.atRest] using hr
  exact (h.1 hs).2

/-- A window over records at rest shows no tag. -/
theorem State.UniqueTags.putWindow {s : State} (h : s.UniqueTags) (ht : s.Every Station.TagLaw) (f : Face)
    {x : FaceState} (hr : ∀ i, inWindow x.window i = true → (s.st i).atRest = true) : (s.setFace f x).UniqueTags := by
  intro g j k hj hk hne u hu
  rw [State.st_setFace] at hu ⊢
  rw [State.face_setFace] at hj hk
  split at hj
  · next e =>
    rw [(ht j).fittingTag_of_atRest (hr j hj)] at hu
    cases hu
  · next e =>
    rw [if_neg e] at hk
    exact h g j k hj hk hne u hu

/-! ### All of it -/

/-- Fields, tags, windows and grants together. -/
def State.BerthsInOrder (s : State) : Prop :=
  s.Every (fun c => c.FieldLaw ∧ c.TagLaw) ∧ s.WindowLaw ∧ s.UniqueTags ∧ (∀ f, (s.face f).BerthLaw) ∧ s.TagsApart

theorem Station.fieldAndTagLaw_move : KeptByMoves fun c => c.FieldLaw ∧ c.TagLaw :=
  fun _ _ _ m h => ⟨h.1.move m, h.2.move h.1 m⟩

theorem State.Move.uniqueTags {s t : State} (m : State.Move s t) (hr : s.Every Station.TagLaw) (hw : s.WindowLaw)
    (h : s.UniqueTags) : t.UniqueTags := by
  cases m with
  | ofPlan hp =>
    cases hp with
    | line i c hc => exact h.setSt hw i hc.fittingTag
    | lines q g hg =>
      refine h.of_fewer (by simp) fun i u hu => ?_
      rw [State.st_mapStations] at hu
      split at hu
      · rcases (hg (s.st i)).fittingTag with hk | hk
        · rwa [hk] at hu
        · exact (hk u hu).elim
      · exact hu
    | face f x hx =>
      refine h.of_fewer (fun g => ?_) (by simp)
      rw [State.face_setFace]
      split
      · next e => rw [hx.berth.1, e]
      · rfl
  | face f x hx =>
    refine h.of_fewer (fun g => ?_) (by simp)
    rw [State.face_setFace]
    split
    · next e => rw [hx.window_eq, e]
    · rfl
  | window f w hg hv ha hrest => exact h.putWindow hr f hrest
  | mask => exact h.of_fewer (fun f => by cases f <;> rfl) fun _ _ hu => hu

theorem State.Move.berthsInOrder {s t : State} (m : State.Move s t) (h : s.BerthsInOrder) : t.BerthsInOrder := by
  obtain ⟨hrec, hwin, huniq, hberth, hapart⟩ := h
  exact ⟨m.every Station.fieldAndTagLaw_move hrec, m.windowLaw hwin, m.uniqueTags (fun i => (hrec i).2) hwin huniq,
    m.eachFace (fun _ _ _ hm h => h.move hm) (fun _ _ hg h => ⟨h.1, fun _ => hg⟩) hberth, m.tagsApart hapart⟩

theorem State.SameParts.berthsInOrder {s t : State} (hp : s.SameParts t) (h : s.BerthsInOrder) : t.BerthsInOrder := by
  obtain ⟨hrec, hwin, huniq, hberth, hapart⟩ := h
  obtain ⟨hs, hf⟩ := hp
  exact ⟨fun i => hs i ▸ hrec i, hwin.of_window_eq fun f => by rw [hf],
    huniq.of_fewer (fun f => by rw [hf]) fun i u hu => by rwa [hs] at hu, fun f => hf f ▸ hberth f,
    hapart.of_tag_eq fun f => by rw [hf]⟩

theorem Station.tagLaw_reset : Station.reset.TagLaw := by
  have hband : Band.valid ⟨Station.reset.settings.bandLow, Station.reset.settings.bandHigh⟩ = true := by decide
  exact ⟨fun _ => ⟨rfl, rfl⟩, by simp [Station.reset], rfl, rfl, hband⟩

theorem State.window_reset (f : Face) : (State.reset.face f).window = none := by cases f <;> rfl

theorem State.windowLaw_reset : State.reset.WindowLaw := by
  rw [State.windowLaw_iff]
  simp [State.window_reset, inWindow]

theorem State.uniqueTags_reset : State.reset.UniqueTags := by
  intro f i j hi
  rw [State.window_reset] at hi
  cases hi

theorem State.berthsInOrder_reset : State.reset.BerthsInOrder :=
  ⟨State.every_reset ⟨Station.fieldLaw_reset, Station.tagLaw_reset⟩, State.windowLaw_reset, State.uniqueTags_reset,
    FaceState.berthLaw_reset, fun f _ => by cases f <;> rfl⟩

theorem State.BerthsInOrder.firstTaken {s : State} (h : s.BerthsInOrder) (pins : PinLevels) :
    (s.firstTaken pins).BerthsInOrder := by
  obtain ⟨hrec, hwin, huniq, hberth, hapart⟩ := h
  refine ⟨State.every_firstTaken hrec pins fun _ _ _ _ hc => hc, hwin.of_window_eq (by simp),
    huniq.of_fewer (by simp) fun i u hu => ?_, by simpa using hberth, hapart.of_tag_eq (by simp)⟩
  rwa [State.st_firstTaken] at hu

/-- Settles O57: a tag is set only where no record of the window carries it, a window is put only over records at rest and
apart from the other's, and a grant leaves and comes back to VACANT with its tag. -/
theorem everyStepKeepsWindowsTagsAndGrants : Obligations.EveryStepKeepsWindowsTagsAndGrants := by
  intro s t hfield htag hwin huniq hgrant ht
  obtain ⟨hberth, hapart⟩ := s.grantLaw_iff.mp hgrant
  have hs : s.BerthsInOrder := ⟨fun i => ⟨hfield i, htag i⟩, hwin, huniq, hberth, hapart⟩
  obtain ⟨hrec, hwin, huniq, hberth, hapart⟩ := step_keeps (fun _ _ m h => m.berthsInOrder h)
    (fun _ _ hp h => hp.berthsInOrder h) State.berthsInOrder_reset (fun _ pins => hs.firstTaken pins) hs ht
  exact ⟨fun i => (hrec i).1, fun i => (hrec i).2, hwin, huniq, t.grantLaw_iff.mpr ⟨hberth, hapart⟩⟩

end Sys2Proof.Machine
end

section
/-! PROOF. Reset, the queue, and how requests are let in (R158, R174, R175, R177, R179). -/

namespace Sys2Proof.Machine

/-! ### Reset (R158, Table 8-4) -/

theorem Station.atReset_reset : Station.reset.AtReset := by
  refine ⟨rfl, rfl, rfl, rfl, rfl, ?_⟩
  exact ⟨⟨rfl, rfl, rfl, rfl, rfl⟩, rfl, rfl, rfl, rfl, rfl, rfl, rfl, rfl, rfl, ⟨rfl, rfl, rfl, rfl, rfl⟩, rfl, rfl, rfl,
    rfl, rfl, rfl, rfl, rfl⟩

theorem FaceState.atReset_reset : FaceState.reset.AtReset :=
  ⟨rfl, rfl, rfl, rfl, rfl, rfl, rfl, rfl, rfl, rfl, rfl, rfl, rfl, rfl, rfl, rfl, rfl, rfl, rfl⟩

theorem State.face_reset (f : Face) : State.reset.face f = FaceState.reset := by cases f <;> rfl

theorem State.atReset_reset : State.reset.AtReset :=
  ⟨State.every_reset Station.atReset_reset, fun f => State.face_reset f ▸ FaceState.atReset_reset, rfl, rfl, rfl, rfl,
    rfl⟩

/-- Settles O54: each law, at the reset values. -/
theorem resetMeetsEveryLaw : Obligations.ResetMeetsEveryLaw := by
  obtain ⟨hdrive, hclamp⟩ := Station.driveAndClampLaw_reset
  refine ⟨State.every_reset Station.holdLaw_reset, State.every_reset Station.fieldLaw_reset, State.every_reset hdrive,
    State.every_reset hclamp, State.every_reset Station.tagLaw_reset, State.every_reset Station.sampleLaw_reset,
    State.every_reset Station.levelLaw_reset, State.every_reset Station.payoutLaw_reset, nofun, State.windowLaw_reset,
    fun f i _ hi => ?_, State.uniqueTags_reset, State.reset.grantLaw_iff.mpr ⟨FaceState.berthLaw_reset, ?_⟩,
    fun f => (FaceState.linkLaw_reset f).1, ShorePort.law_reset, fun f => ?_⟩
  · rw [State.window_reset] at hi
    cases hi
  · exact fun f _ => by rw [State.face_reset]; rfl
  · obtain ⟨⟨hwalk, hwidth, htimer⟩, hdep⟩ := FaceState.planLaw_reset f
    exact ⟨hwalk, hwidth, htimer, hdep, (FaceState.linkLaw_reset f).2⟩

/-- Settles O4: POWER_ON_RESET answers the reset values with the queue as it was. -/
theorem resetPutsEveryBlockAtItsResetValues : Obligations.ResetPutsEveryBlockAtItsResetValues := by
  have hat {s : State} : State.AtReset { State.reset with pending := s.pending, inReset := true } := by
    obtain ⟨hs, hf, hrest⟩ := State.atReset_reset
    refine ⟨hs, fun f => ?_, hrest⟩
    cases f with
    | north => exact hf .north
    | south => exact hf .south
  exact ⟨fun s => ⟨_, rfl, hat, rfl, rfl⟩, State.atReset_reset, rfl, rfl⟩

/-! ### The queue -/

/-- Settles O1: a step runs the front command over the queue's rest. -/
theorem stepTakesTheFrontCommandOrIdles : Obligations.StepTakesTheFrontCommandOrIdles :=
  ⟨fun _ _ _ h => step_front h, fun s h => by simp [step, h]⟩

theorem State.Leads.pending {s t : State} (h : s.Leads t) : t.pending = s.pending := by
  cases h with
  | stay => rfl
  | reset => rfl
  | begins pins hr hacts => exact hacts.sameFrame.1
  | does hr hdoes =>
    obtain ⟨port, u, hacts, he, -⟩ := hdoes
    rw [he]
    exact hacts.sameFrame.1

/-- Settles O2: every command leads to a state of moves, which leave the queue. -/
theorem everyCommandCompletesAndKeepsTheQueue : Obligations.EveryCommandCompletesAndKeepsTheQueue := by
  intro c s
  obtain ⟨t, ht, hl⟩ := exec_leads c s
  exact ⟨t, ht, hl.pending⟩

/-! ### How a request of each port is let in, said once for every request -/

/-- A request frame at the shore port: its bits are handed to `k`, whose answer the port takes. -/
def takeFrame (frame : List Byte) (atOnce : Bool) (k : State → State × Answer) (s : State) : Out :=
  live s fun s =>
    if s.shore.takes frame then (k s.clearBits).1.shoreAnswer frame.length atOnce (k s.clearBits).2 else s

theorem hostRequest_eq_takeFrame {c : Instr} {frame : List Byte} (h : shoreFrameOf c = some frame)
    (k : State → State × Answer) (s : State) : hostRequest c k s = takeFrame frame false k s := by
  simp only [hostRequest, takeFrame, h]

theorem portRequest_eq_takeFrame {c : Instr} {frame : List Byte} (h : shoreFrameOf c = some frame) (a : Answer)
    (s : State) : portRequest c a s = takeFrame frame true (fun s => (s, a)) s := by
  simp only [portRequest, takeFrame, h]
  rfl

theorem lineRequest_host_eq_takeFrame {i : StationId} {c : Instr} {frame : List Byte}
    (h : shoreFrameOf c = some frame) (mooring : Bool) (g : Holder → State → StationId → Station → Station × Answer) :
    ∃ k, ∀ s, lineRequest (.host i) c mooring g s = takeFrame frame false k s := by
  dsimp only [lineRequest]
  exact ⟨_, fun s => hostRequest_eq_takeFrame h _ s⟩

/-- Every host request is a frame taken by the shore port. -/
theorem exec_eq_takeFrame {c : Instr} {frame : List Byte} (h : shoreFrameOf c = some frame) :
    ∃ atOnce k, ∀ s, exec c s = takeFrame frame atOnce k s := by
  have host {x : State → Out} (hx : ∃ k, ∀ s, x s = hostRequest c k s) :
      ∃ atOnce k, ∀ s, x s = takeFrame frame atOnce k s := by
    obtain ⟨k, hk⟩ := hx
    exact ⟨false, k, fun s => (hk s).trans (hostRequest_eq_takeFrame h k s)⟩
  have line {i : StationId} (mooring : Bool) (g : Holder → State → StationId → Station → Station × Answer) :
      ∃ atOnce k, ∀ s, lineRequest (.host i) c mooring g s = takeFrame frame atOnce k s :=
    ⟨false, lineRequest_host_eq_takeFrame h mooring g⟩
  cases c with
  | ident => exact ⟨true, _, portRequest_eq_takeFrame h _⟩
  | queryLine sender =>
    cases sender with
    | host i =>
      dsimp only [exec, execQueryLine]
      exact host ⟨_, fun s => rfl⟩
    | ship f tag selector => cases h
  | windowList sender =>
    cases sender with
    | host i =>
      dsimp only [exec, execWindowList]
      exact host ⟨_, fun s => rfl⟩
    | ship f tag selector => cases h
  | pushHold sender x | markAttached sender x =>
    cases sender with
    | host i =>
      dsimp only [exec, execPushHold, execMarkAttached]
      exact line _ _
    | ship f tag selector => cases h
  | popHold sender | takeUp sender | markClear sender =>
    cases sender with
    | host i =>
      dsimp only [exec, execPopHold, execTakeUp, execMarkClear]
      exact line _ _
    | ship f tag selector => cases h
  | setBand | lock | unlock | cancel =>
    dsimp only [exec, execSetBand, execLock, execUnlock, execCancel, hostLine]
    exact host ⟨_, fun s => rfl⟩
  | payout | release | clearFault | adopt =>
    dsimp only [exec, execPayout, execRelease, execClearFault, execAdopt]
    exact host ⟨_, fun s => rfl⟩
  | setWindow | arrive | secure | vacate | queryFace =>
    dsimp only [exec, execSetWindow, execArrive, execSecure, execVacate, execQueryFace]
    exact host ⟨_, fun s => rfl⟩
  | setPlan | queryPlan | depart | pause | resume | abortDepart | emergencyRelease =>
    dsimp only [exec, execSetPlan, execQueryPlan, execDepart, execPause, execResume, execAbortDepart,
      execEmergencyRelease]
    exact host ⟨_, fun s => rfl⟩
  | summary | readAttention | ackAttention | setClassMask | clearLinkStatus | setSetting | getSetting =>
    dsimp only [exec, execSummary, execReadAttention, execAckAttention, execSetClassMask, execClearLinkStatus,
      execSetSetting, execGetSetting]
    exact host ⟨_, fun s => rfl⟩
  | _ => cases h

/-- Every ship request is a frame taken by its face's receiver. -/
theorem exec_eq_shipFrame {c : Instr} {f : Face} (h : shipFaceOf c = some f) :
    ∃ tag mooring k, ∀ s, exec c s = shipFrame f tag mooring k s := by
  cases c with
  | queryLine sender | windowList sender =>
    cases sender with
    | host i => cases h
    | ship g tag selector =>
      cases h
      dsimp only [exec, execQueryLine, execWindowList]
      exact ⟨_, _, _, fun s => rfl⟩
  | popHold sender | takeUp sender | markClear sender =>
    cases sender with
    | host i => cases h
    | ship g tag selector =>
      cases h
      dsimp only [exec, execPopHold, execTakeUp, execMarkClear, lineRequest, shipLine]
      exact ⟨_, _, _, fun s => rfl⟩
  | pushHold sender x | markAttached sender x =>
    cases sender with
    | host i => cases h
    | ship g tag selector =>
      cases h
      dsimp only [exec, execPushHold, execMarkAttached, lineRequest, shipLine]
      exact ⟨_, _, _, fun s => rfl⟩
  | requestBand g tag selector low high =>
    cases h
    dsimp only [exec, execRequestBand, shipLine]
    exact ⟨_, _, _, fun s => rfl⟩
  | _ => cases h

theorem takeFrame_other {s : State} {frame : List Byte} (h : s.shore.takes frame = false) (atOnce : Bool)
    (k : State → State × Answer) : takeFrame frame atOnce k s = .next s := by
  simp [takeFrame, live, h]

theorem takeFrame_taken {s : State} {frame : List Byte} (hr : s.inReset = false) (h : s.shore.takes frame = true)
    (atOnce : Bool) (k : State → State × Answer) :
    takeFrame frame atOnce k s =
      .next ((k s.clearBits).1.shoreAnswer frame.length atOnce (k s.clearBits).2) := by
  simp [takeFrame, live_running hr, h]

theorem ShorePort.takes_eq_false {p : ShorePort} (h : p.phase ≠ .receiving) (frame : List Byte) :
    p.takes frame = false := by
  simp [ShorePort.takes, h]

/-- Settles O3: in reset a command makes no move; outside RECEIVING no frame is taken; a receiver with no frame held takes
no ship request. -/
theorem nothingIsTakenInResetOrOutsideAPort : Obligations.NothingIsTakenInResetOrOutsideAPort := by
  intro c s
  refine ⟨fun hr hp he => ?_, fun hc hphase => ?_, fun f hf hrx => ?_⟩
  · obtain ⟨t, ht, -⟩ := exec_doesLive (s := s) c hp he
    rw [ht, if_pos hr]
  · obtain ⟨r, hr⟩ := Option.isSome_iff_exists.mp hc
    obtain ⟨atOnce, k, hk⟩ := exec_eq_takeFrame (shoreFrameOf_eq hr)
    rw [hk, takeFrame_other (ShorePort.takes_eq_false hphase _)]
  · obtain ⟨tag, mooring, k, hk⟩ := exec_eq_shipFrame hf
    rw [hk, shipFrame_nothing hrx]

/-! ### RESET_END (R82, R90, R96, R101, R141, R174, R182) -/

theorem Station.endAtHome_of_empty {c : Station} (h : c.drive.cur = none) : c.endAtHome = c := by
  simp [Station.endAtHome, h]

theorem Station.takeHomeClosed_of_state {c : Station} (h : c.state ≠ .heave) (h' : c.state ≠ .rewind) :
    c.takeHomeClosed = c := by
  unfold Station.takeHomeClosed
  split
  · next hs => exact absurd hs h
  · next hs => exact absurd hs h'
  · rfl

/-- A home closing of a line that no segment moves (R92). -/
theorem Station.homeCloses_of_still {c : Station} (hh : c.drive.homeClosed = false) (hc : c.drive.cur = none)
    (hn : c.state ≠ .heave) (hr : c.state ≠ .rewind) :
    c.homeCloses = { c with drive := { c.drive with homeClosed := true, payout := some 0, overrun := 0 } } := by
  unfold Station.homeCloses
  rw [if_neg (by simp [hh])]
  refine (congrArg Station.takeHomeClosed (Station.endAtHome_of_empty ?_)).trans ?_
  · exact hc
  · exact Station.takeHomeClosed_of_state hn hr

theorem fieldOfReading_readingOf (openMade closedMade : Bool) :
    fieldOfReading (readingOf openMade closedMade) =
      (match openMade, closedMade with
        | true, false => ClampField.opened
        | false, true => ClampField.closed
        | _, _ => ClampField.unknown) := by
  cases openMade <;> cases closedMade <;> rfl

/-- The first levels of a record at its reset values, whole. -/
theorem Station.AtReset.firstLevels {c : Station} (h : c.AtReset) (homeClosed openMade closedMade : Bool)
    (v : EncoderLevels) : c.firstLevels homeClosed openMade closedMade v =
      { c with drive := { c.drive with
          encoder := v
          reading := readingOf openMade closedMade
          field := fieldOfReading (readingOf openMade closedMade)
          homeClosed := homeClosed
          payout := if homeClosed then some 0 else none } } := by
  obtain ⟨hstate, -, -, -, -, -, -, -, -, -, -, -, -, -, -, ⟨-, hcur, -⟩, -, hpayout, hover, -⟩ := h
  cases homeClosed with
  | false => simp [Station.firstLevels, ← hpayout]
  | true =>
    simp only [Station.firstLevels, if_true]
    refine (Station.homeCloses_of_still ?_ ?_ ?_ ?_).trans ?_
    · rfl
    · exact hcur
    · simp [hstate]
    · simp [hstate]
    · rw [← hover]

/-- An activation where the level is ACTIVE. -/
def State.activatedIf (s : State) (active : Bool) (f : Face) : State := if active then s.activateEr f else s

theorem State.face_activatedIf_same (s : State) (active : Bool) (f : Face) : (s.activatedIf active f).face f =
    if active then
      { s.face f with
        erActive := true, grant := (s.face f).grant.emergency, planReports := (s.face f).planReports + 1
        attn := (s.face f).attn.put .emergency true }
    else s.face f := by
  cases active <;> simp [State.activatedIf, State.activateEr, State.emergencyAction, State.latchFace]

theorem State.face_activatedIf_ne (s : State) (active : Bool) {f g : Face} (h : g ≠ f) :
    (s.activatedIf active f).face g = s.face g := by
  cases active <;> simp [State.activatedIf, State.activateEr, State.emergencyAction, State.latchFace, h]

theorem State.st_activatedIf {s : State} {f : Face} (h : (s.face f).window = none) (active : Bool) (i : StationId) :
    (s.activatedIf active f).st i = s.st i := by
  cases active <;> simp [State.activatedIf, State.activateEr, State.emergencyAction, State.latchFace, h, inWindow]

theorem State.device_activatedIf (s : State) (active : Bool) (f : Face) :
    s.KeepsDevice (s.activatedIf active f) ∧ (s.activatedIf active f).shore = s.shore := by
  cases active <;>
    simp [State.KeepsDevice, State.activatedIf, State.activateEr, State.emergencyAction, State.latchFace]

/-- The part out of reset, before the emergency levels count. -/
def State.begun (s : State) (pins : PinLevels) : State :=
  ((((s.firstTaken pins).mapStations (fun i => pins.homeClosed.getLsbD i.val) Station.homeCloses).onFace .north fun x =>
    x.firstLight (pins.irrx.getLsbD 0)).onFace .south fun x => x.firstLight (pins.irrx.getLsbD 1))

theorem execResetEnd_eq {s : State} (h : s.inReset = true) (pins : PinLevels) :
    execResetEnd pins s =
      .next (((s.begun pins).activatedIf (pins.er.getLsbD 0) .north).activatedIf (pins.er.getLsbD 1) .south) := by
  unfold State.begun
  rw [← State.firstLevels_eq]
  exact if_pos h

theorem State.st_begun (s : State) (pins : PinLevels) (i : StationId) :
    (s.begun pins).st i = (s.st i).firstLevels (pins.homeClosed.getLsbD i.val) (pins.openMade.getLsbD i.val)
      (pins.closedMade.getLsbD i.val) ⟨pins.encA.getLsbD i.val, pins.encB.getLsbD i.val⟩ := by
  simp [State.begun, Station.firstLevels, Station.firstField]

theorem State.face_begun (s : State) (pins : PinLevels) (f : Face) :
    (s.begun pins).face f = (s.face f).firstLight (pins.irrx.getLsbD (faceCode f).toNat) := by
  cases f <;> simp [State.begun, faceCode]

theorem State.device_begun (s : State) (pins : PinLevels) :
    (s.begun pins).inReset = false ∧ (s.begun pins).pending = s.pending ∧
      (s.begun pins).urgentMasked = s.urgentMasked ∧ (s.begun pins).routineMasked = s.routineMasked ∧
      (s.begun pins).shore = { s.shore with selLow := pins.selLow } := by
  simp [State.begun, State.firstTaken]

/-- A face at its reset values out of reset, with its first emergency level. -/
theorem FaceState.AtReset.first {x : FaceState} (h : x.AtReset) (high active : Bool) {y : FaceState}
    (hy : y = if active then
        { x.firstLight high with
          erActive := true, grant := (x.firstLight high).grant.emergency
          planReports := (x.firstLight high).planReports + 1
          attn := (x.firstLight high).attn.put .emergency true }
      else x.firstLight high) :
    y.erActive = active ∧ y.attn.emergency = active ∧ y.link = { x.link with ignoring := !high } ∧
      y.grant = .vacant ∧ y.window = none ∧ y.sequencer = x.sequencer := by
  obtain ⟨hgrant, -, hwindow, hsettings, her, hattn, -⟩ := h
  have hmark : x.settings.isMark high = !high := by
    rw [hsettings]
    cases high <;> rfl
  subst hy
  cases active with
  | false => simp [FaceState.firstLight, hgrant, hwindow, her, hattn, hmark]
  | true => simp [FaceState.firstLight, hgrant, hwindow, hmark, GrantState.emergency, FaceAttn.put]

/-- Settles O5: the first levels of each record and of each face, at their reset values. -/
theorem resetEndTakesTheFirstLevels : Obligations.ResetEndTakesTheFirstLevels := by
  intro pins s hr ⟨hst, hface, hurgent, hroutine, _⟩
  refine ⟨_, execResetEnd_eq hr pins, ?_⟩
  obtain ⟨hin, hpend, hu, ho, hshore⟩ := s.device_begun pins
  obtain ⟨⟨np, nr, nu, no⟩, ns⟩ := (s.begun pins).device_activatedIf (pins.er.getLsbD 0) .north
  obtain ⟨⟨sp, sr, su, so⟩, ss⟩ :=
    ((s.begun pins).activatedIf (pins.er.getLsbD 0) .north).device_activatedIf (pins.er.getLsbD 1) .south
  have apart : Face.north ≠ .south ∧ Face.south ≠ .north := ⟨by decide, by decide⟩
  have hnorth := (hface .north).first (pins.irrx.getLsbD 0) (pins.er.getLsbD 0)
    (y := (((s.begun pins).activatedIf (pins.er.getLsbD 0) .north).activatedIf (pins.er.getLsbD 1) .south).face .north)
    (by rw [State.face_activatedIf_ne _ _ apart.1, State.face_activatedIf_same, State.face_begun]; rfl)
  have hsouth := (hface .south).first (pins.irrx.getLsbD 1) (pins.er.getLsbD 1)
    (y := (((s.begun pins).activatedIf (pins.er.getLsbD 0) .north).activatedIf (pins.er.getLsbD 1) .south).face .south)
    (by rw [State.face_activatedIf_same, State.face_activatedIf_ne _ _ apart.2, State.face_begun]; rfl)
  obtain ⟨hner, hnattn, hnlink, hngrant, hnwindow, hnseq⟩ := hnorth
  obtain ⟨hser, hsattn, hslink, hsgrant, hswindow, hsseq⟩ := hsouth
  refine ⟨(sr.trans nr).trans hin, (sp.trans np).trans hpend, ((su.trans nu).trans hu).trans hurgent,
    ((so.trans no).trans ho).trans hroutine, (ss.trans ns).trans hshore, fun i => ?_, hner, hnattn, hser, hsattn,
    hnlink, hslink, fun f => ?_⟩
  · have hw (f : Face) : ((s.begun pins).face f).window = none := by
      rw [State.face_begun]
      exact (hface f).2.2.1
    rw [State.st_activatedIf (by rw [State.face_activatedIf_ne _ _ apart.2]; exact hw .south), State.st_activatedIf (hw .north),
      State.st_begun, (hst i).firstLevels]
    obtain ⟨hstate, -, -, -, -, -, -, -, -, -, -, -, -, -, -, hempty, -, -, -, hcommand, hdeadline, hquarters, -, hattn⟩ := hst i
    exact ⟨hstate, hattn, hempty, rfl, rfl, hcommand, hdeadline, rfl, hquarters, fieldOfReading_readingOf _ _⟩
  · cases f with
    | north => exact ⟨hngrant, hnwindow, hnseq⟩
    | south => exact ⟨hsgrant, hswindow, hsseq⟩

end Sys2Proof.Machine
end

section
/-! PROOF. What a claim on one record comes to, said once for each way in: a host request, a ship request, an event. -/

namespace Sys2Proof.Machine

theorem Completes.mono {c : Instr} {s : State} {p q : State → Prop} (h : Completes c s p) (hpq : ∀ t, p t → q t) :
    Completes c s q := by
  obtain ⟨t, ht, hp⟩ := h
  exact ⟨t, ht, hpq t hp⟩

/-! ### The record after a claim -/

/-- A claim has made `d` of the record: `d`, with the reports that it made where they are heard. -/
def State.Takes (s t : State) (i : StationId) (d : Station) : Prop :=
  t.st i = { d with toSequencer := if s.heard i then d.toSequencer else (s.st i).toSequencer }

theorem State.takes_onLine (s : State) (i : StationId) (g : Station → Station) : s.Takes (s.onLine i g) i (g (s.st i)) := by
  rw [State.Takes, State.st_onLine_same]
  split <;> rfl

section
variable {s t : State} {i : StationId} {d : Station} (h : s.Takes t i d)
include h

theorem State.Takes.reports {new : List LineReport} (hd : d.toSequencer = (s.st i).toSequencer ++ new) :
    s.Reports t i new := by
  rw [State.Reports, h]
  dsimp only
  split
  · exact hd
  · exact (List.append_nil _).symm

/-- A claim that reports nothing leaves the record that it made. -/
theorem State.Takes.eq_of_silent (hd : d.toSequencer = (s.st i).toSequencer) : t.st i = d := by
  rw [h, ← hd, ite_self]

/-- Every field but the reports is what the claim made it. -/
theorem State.Takes.eq_but_reports : t.st i = { d with toSequencer := (t.st i).toSequencer } := by
  rw [h]

end

/-! ### A host request -/

/-- The host request `c`, with `n` payload bytes, on record `i` comes to `r`: the record made and the answer. -/
def HostTakes (c : Instr) (s : State) (i : StationId) (n : Nat) (r : Station × Answer) : Prop :=
  exec c s = .next ((s.onLine i fun _ => r.1).shoreAnswer (n + 4) false r.2)

section
variable {c : Instr} {s : State} {i : StationId} {n : Nat} {r : Station × Answer} (h : HostTakes c s i n r)
include h

theorem HostTakes.taking {d : Station} {status : Status} {payload : List Byte} (hr : r = (d, ⟨status, payload⟩))
    (hp : status.ofPort = false) :
    Completes c s fun t => s.OnlyStationAndPort t i ∧ s.Answers t n status payload ∧ s.Takes t i d := by
  subst hr
  refine ⟨_, h, s.onlyStationAndPort_answer i _ _ _ _, ?_, s.takes_onLine i fun _ => d⟩
  rw [State.Answers, hp]
  rfl

theorem HostTakes.refusing {status : Status} (hr : r = (s.st i, refusal status)) (hp : status.ofPort = false) :
    Completes c s fun t => s.Refuses t n status := by
  subst hr
  refine ⟨_, h, ?_⟩
  rw [State.onLine_of_eq rfl]
  exact s.refuses_shoreAnswer n hp

end

/-! ### Selectors (R11, R12) -/

theorem pairwise_allStations : allStations.Pairwise (· < ·) := by decide

theorem pairwise_windowStations (w : Option Window) : (windowStations w).Pairwise (· < ·) :=
  List.Pairwise.filter _ pairwise_allStations

theorem mem_windowStations_some {w : Window} {i : StationId} :
    i ∈ windowStations (some w) ↔ w.base.val ≤ i.val ∧ i.val ≤ w.limit.val := by
  rw [mem_windowStations]
  simp only [inWindow, Window.has, Bool.and_eq_true, decide_eq_true_eq, Fin.le_def]

/-- The stations of a window are the numbers from its base on. -/
theorem map_val_windowStations {w : Window} (h : w.Valid) :
    (windowStations (some w)).map Fin.val = List.range' w.base.val w.size := by
  have hle : w.base.val ≤ w.limit.val := h.1
  have hleft : ((windowStations (some w)).map Fin.val).Pairwise (· < ·) :=
    List.pairwise_map.mpr (pairwise_windowStations (some w))
  have hright : (List.range' w.base.val w.size).Pairwise (· < ·) := List.pairwise_lt_range'
  refine List.Perm.eq_of_pairwise (le := (· < ·)) (fun a b _ _ hab hba => absurd hab (Nat.lt_asymm hba)) hleft hright ?_
  refine (List.perm_ext_iff_of_nodup (hleft.imp Nat.ne_of_lt) (hright.imp Nat.ne_of_lt)).mpr fun n => ?_
  have hsize : w.size = w.limit.val - w.base.val + 1 := rfl
  have hlimit : w.limit.val < 24 := w.limit.isLt
  simp only [List.mem_map, mem_windowStations_some, List.mem_range'_1]
  constructor
  · rintro ⟨i, hi, rfl⟩
    omega
  · intro hn
    exact ⟨⟨n, by omega⟩, ⟨hn.1, by simp only; omega⟩, rfl⟩

theorem length_windowStations {w : Window} (h : w.Valid) : (windowStations (some w)).length = w.size := by
  rw [← List.length_map (f := Fin.val), map_val_windowStations h, List.length_range']

theorem getElem?_windowStations {w : Window} (h : w.Valid) {k : Nat} {i : StationId} (hi : w.has i = true)
    (hk : i.val = w.base.val + k) : (windowStations (some w))[k]? = some i := by
  have hle : i.val ≤ w.limit.val := by
    simp only [Window.has, Bool.and_eq_true, decide_eq_true_eq, Fin.le_def] at hi
    exact hi.2
  have hsize : w.size = w.limit.val - w.base.val + 1 := rfl
  have hlt : k < (windowStations (some w)).length := by
    rw [length_windowStations h]
    omega
  rw [List.getElem?_eq_getElem hlt]
  refine congrArg some (Fin.ext ?_)
  have hval : ((windowStations (some w)).map Fin.val)[k]'(by simpa using hlt) = w.base.val + k := by
    simp [map_val_windowStations h]
  rw [hk, ← hval, List.getElem_map]

theorem List.find?_eq_some_of_unique {α : Type} {p : α → Bool} {l : List α} {a : α} (ha : a ∈ l) (hp : p a = true)
    (hu : ∀ b ∈ l, p b = true → b = a) : l.find? p = some a := by
  cases hf : l.find? p with
  | none => exact absurd hp (by simpa using List.find?_eq_none.mp hf a ha)
  | some b => rw [hu b (List.mem_of_find?_eq_some hf) (List.find?_some hf)]

/-- The selector names the record (R11, R12). -/
theorem State.lookup_of_selects {s : State} {f : Face} {selector : Byte} {i : StationId}
    (h : s.Selects f selector i) : s.lookup f selector = .ok i := by
  obtain ⟨w, hw, hvalid, hi, hsel⟩ := h
  unfold State.lookup
  simp only [hw]
  rcases hsel with ⟨hlow, hval⟩ | ⟨hlow, hhigh, htag, hunique⟩
  · rw [if_pos hlow, getElem?_windowStations hvalid hi hval]
  · have hfind : (windowStations (some w)).find? (fun j => decide ((s.st j).fittingTag = some (selector - 0x80))) =
        some i := by
      refine List.find?_eq_some_of_unique (mem_windowStations.mpr hi) (decide_eq_true htag) fun j hj ht => ?_
      refine Classical.byContradiction fun hne => ?_
      exact hunique j (mem_windowStations.mp hj) hne (of_decide_eq_true ht)
    rw [if_neg (by omega), if_pos ⟨hlow, hhigh⟩, hfind]

/-! ### A ship request -/

theorem State.face_leaveFrame_ne (s : State) {f g : Face} (running : Bool) (h : g ≠ f) :
    (s.leaveFrame f running).face g = s.face g := State.face_onFace_ne s _ h

theorem State.window_leaveFrame (s : State) (f g : Face) : ((s.leaveFrame f).face g).window = (s.face g).window := by
  by_cases h : g = f
  · subst h
    rw [State.face_leaveFrame]
  · rw [State.face_leaveFrame_ne s _ h]

theorem State.seq_leaveFrame (s : State) (f g : Face) : (s.leaveFrame f).seq g = s.seq g := by
  unfold State.seq
  by_cases h : g = f
  · subst h
    rw [State.face_leaveFrame]
  · rw [State.face_leaveFrame_ne s _ h]

theorem State.faceOf_leaveFrame (s : State) (f : Face) (i : StationId) : (s.leaveFrame f).faceOf i = s.faceOf i := by
  have hn := s.window_leaveFrame f .north
  have hs := s.window_leaveFrame f .south
  simp only [State.face] at hn hs
  simp only [State.faceOf, hn, hs]

theorem State.heard_leaveFrame (s : State) (f : Face) (i : StationId) : (s.leaveFrame f).heard i = s.heard i := by
  have hseq (g : Face) : ((s.leaveFrame f).face g).sequencer = (s.face g).sequencer := s.seq_leaveFrame f g
  simp only [State.heard, State.faceOf_leaveFrame, hseq]

theorem State.tagTaken_leaveFrame (s : State) (f : Face) (i : StationId) (tag : Byte) :
    (s.leaveFrame f).tagTaken i tag = s.tagTaken i tag := by
  simp only [State.tagTaken, State.faceOf_leaveFrame, State.window_leaveFrame, State.st_leaveFrame]

theorem State.lookup_leaveFrame (s : State) (f g : Face) (selector : Byte) :
    (s.leaveFrame f).lookup g selector = s.lookup g selector := by
  simp only [State.lookup, State.window_leaveFrame, State.st_leaveFrame]

/-- The ship request `c` on the line `i` comes to `r`, by the receiver of face `f`. -/
def ShipTakes (c : Instr) (s : State) (f : Face) (tag : Half) (i : StationId) (r : Station × Answer) : Prop :=
  exec c s = .next (((s.leaveFrame f).onLine i fun _ => r.1.shipChanged r.2).shipAnswer f tag r.2)

theorem shipLine_ready {s : State} {f : Face} {tag : Half} {selector : Byte} {i : StationId} (h : s.ShipReady f tag)
    (hsel : s.Selects f selector i) {mooring : Bool} (hm : mooring = true → s.MooringServed f)
    (g : State → StationId → Station → Station × Answer) :
    shipLine f tag selector mooring g s =
      .next (((s.leaveFrame f).onLine i fun _ =>
        (g (s.leaveFrame f) i (s.st i)).1.shipChanged (g (s.leaveFrame f) i (s.st i)).2).shipAnswer f tag
          (g (s.leaveFrame f) i (s.st i)).2) := by
  unfold shipLine
  rw [shipFrame_ready h hm]
  simp only [State.lookup_leaveFrame, State.lookup_of_selects hsel, State.st_leaveFrame]

theorem State.shipAnswers_shipAnswer {s t : State} {f : Face} {tag : Half} {status : Status} {payload : List Byte}
    (h : t.face f = (s.leaveFrame f).face f) : s.ShipAnswers (t.shipAnswer f tag ⟨status, payload⟩) f tag status payload := by
  rw [State.ShipAnswers, State.shipAnswer_eq, State.face_onFace_same, h, State.face_leaveFrame]

theorem State.onlyFace_leaveFrame (s : State) (f : Face) (running : Bool) : s.OnlyFace (s.leaveFrame f running) f :=
  ⟨⟨fun i _ => s.st_leaveFrame f running i, fun g hg => s.face_leaveFrame_ne running (by simpa using hg), by
    simp [State.KeepsDevice, State.leaveFrame]⟩, by simp [State.leaveFrame]⟩

theorem State.onlyFace_onFace (s : State) (f : Face) (g : FaceState → FaceState) : s.OnlyFace (s.onFace f g) f :=
  ⟨⟨fun i _ => s.st_onFace f g i, fun h hh => s.face_onFace_ne g (by simpa using hh), by simp [State.KeepsDevice]⟩,
    by simp⟩

theorem State.OnlyFace.trans {s t u : State} {f : Face} (h : s.OnlyFace t f) (k : t.OnlyFace u f) : s.OnlyFace u f := by
  obtain ⟨⟨hs, hf, hp, hr, hu, ho⟩, hport⟩ := h
  obtain ⟨⟨ks, kf, kp, kr, ku, ko⟩, kport⟩ := k
  exact ⟨⟨fun i hi => (ks i hi).trans (hs i hi), fun g hg => (kf g hg).trans (hf g hg), kp.trans hp, kr.trans hr,
    ku.trans hu, ko.trans ho⟩, kport.trans hport⟩

section
variable {c : Instr} {s : State} {f : Face} {tag : Half} {i : StationId} {r : Station × Answer}
  (h : ShipTakes c s f tag i r)
include h

theorem ShipTakes.taking {d : Station} {status : Status} {payload : List Byte} (hr : r = (d, ⟨status, payload⟩)) :
    Completes c s fun t =>
      s.OnlyStationAndFace t i f ∧ s.ShipAnswers t f tag status payload ∧ s.Takes t i (d.shipChanged ⟨status, payload⟩) := by
  subst hr
  refine ⟨_, h, ⟨fun j hj => ?_, fun g hg => ?_, ?_, ?_⟩, State.shipAnswers_shipAnswer (State.face_onLine _ _ _ _), ?_⟩
  · rw [State.shipAnswer_eq, State.st_onFace, State.st_onLine_ne _ _ (by simpa using hj), State.st_leaveFrame]
  · have hg : g ≠ f := by simpa using hg
    rw [State.shipAnswer_eq, State.face_onFace_ne _ _ hg, State.face_onLine, State.face_leaveFrame_ne s _ hg]
  · simp [State.KeepsDevice, State.shipAnswer_eq, State.leaveFrame_eq]
  · simp [State.shipAnswer_eq, State.leaveFrame_eq]
  · have hline := (s.leaveFrame f).takes_onLine i fun _ => d.shipChanged ⟨status, payload⟩
    rw [State.Takes, State.heard_leaveFrame, State.st_leaveFrame] at hline
    rw [State.Takes, State.shipAnswer_eq, State.st_onFace, hline]

theorem ShipTakes.refusing {status : Status} (hr : r = (s.st i, refusal status)) (ht : status.taken = false) :
    Completes c s fun t => s.OnlyFace t f ∧ s.ShipAnswers t f tag status [] := by
  subst hr
  refine ⟨_, h, ?_⟩
  rw [State.onLine_of_eq (by simp [Station.shipChanged, refusal, ht])]
  exact ⟨(s.onlyFace_leaveFrame f false).trans (State.onlyFace_onFace _ f _), State.shipAnswers_shipAnswer rfl⟩

end

/-! ### An event of one station -/

/-- The event `c` of station `i` makes `d` of its record. -/
def EventTakes (c : Instr) (s : State) (i : StationId) (d : Station) : Prop := exec c s = .next (s.onLine i fun _ => d)

theorem EventTakes.taking {c : Instr} {s : State} {i : StationId} {d : Station} (h : EventTakes c s i d) :
    Completes c s fun t => s.OnlyStation t i ∧ s.Takes t i d :=
  ⟨_, h, s.onlyStation_onLine i _, s.takes_onLine i fun _ => d⟩

theorem EventTakes.keeping {c : Instr} {s : State} {i : StationId} (h : EventTakes c s i (s.st i)) :
    Completes c s fun t => t = s :=
  ⟨_, h, State.onLine_of_eq rfl⟩

/-- The record is what the event makes it, where it reports nothing. -/
theorem EventTakes.silent {c : Instr} {s : State} {i : StationId} {d : Station} (h : EventTakes c s i d)
    (hd : d.toSequencer = (s.st i).toSequencer) : Completes c s fun t => s.OnlyStation t i ∧ t.st i = d :=
  h.taking.mono fun _ ⟨honly, htakes⟩ => ⟨honly, htakes.eq_of_silent hd⟩

theorem eventTakes_of_stationEvent {c : Instr} {s : State} {i : StationId} (h : s.inReset = false)
    {g : Station → Station} (he : exec c s = stationEvent i g s) : EventTakes c s i (g (s.st i)) :=
  he.trans (stationEvent_running h i g)

end Sys2Proof.Machine
end

section
/-! PROOF. The hold stack, the band and the fitting tag (chapter 1). -/

namespace Sys2Proof.Machine

/-! ### What each request of the line table comes to -/

section
variable {s : State} (i : StationId)

theorem hostTakes_pushHold (h : s.HostReady) (reason : Byte) :
    HostTakes (.pushHold (.host i) reason) s i 1 ((s.st i).pushHold ⟨.shore, reason⟩) := by
  dsimp only [HostTakes, exec, execPushHold, lineRequest]
  exact hostRequest_ready (i := .pushHold (.host i) reason) h rfl _

theorem hostTakes_popHold (h : s.HostReady) : HostTakes (.popHold (.host i)) s i 0 ((s.st i).popHold .shore) := by
  dsimp only [HostTakes, exec, execPopHold, lineRequest]
  exact hostRequest_ready (i := .popHold (.host i)) h rfl _

theorem hostTakes_setBand (h : s.HostReady) (low high : Half) :
    HostTakes (.setBand i low high) s i 4 ((s.st i).setBand ⟨low.toNat, high.toNat⟩) := by
  dsimp only [HostTakes, exec, execSetBand]
  exact hostLine_ready (c := .setBand i low high) h rfl i _

theorem hostTakes_markAttached (h : s.HostReady) (fitting : Byte) :
    HostTakes (.markAttached (.host i) fitting) s i 1
      ((s.st i).markAttached .shore fitting (s.tagTaken i fitting)) := by
  dsimp only [HostTakes, exec, execMarkAttached, lineRequest]
  exact hostRequest_ready (i := .markAttached (.host i) fitting) h rfl _

end

section
variable {s : State} {f : Face} {tag : Half} {selector : Byte} {i : StationId} (h : s.ShipReady f tag)
  (hsel : s.Selects f selector i)
include h hsel

theorem shipTakes_pushHold (reason : Byte) :
    ShipTakes (.pushHold (.ship f tag selector) reason) s f tag i ((s.st i).pushHold ⟨.ship, reason⟩) := by
  dsimp only [ShipTakes, exec, execPushHold, lineRequest]
  exact shipLine_ready h hsel (mooring := false) nofun _

theorem shipTakes_popHold :
    ShipTakes (.popHold (.ship f tag selector)) s f tag i ((s.st i).popHold .ship) := by
  dsimp only [ShipTakes, exec, execPopHold, lineRequest]
  exact shipLine_ready h hsel (mooring := false) nofun _

theorem shipTakes_requestBand (low high : Half) :
    ShipTakes (.requestBand f tag selector low high) s f tag i
      ((s.st i).requestBand (s.face f).settings low.toNat high.toNat) := by
  dsimp only [ShipTakes, exec, execRequestBand]
  rw [shipLine_ready h hsel (mooring := false) nofun, State.face_leaveFrame]

theorem shipTakes_markAttached (hm : s.MooringServed f) (fitting : Byte) :
    ShipTakes (.markAttached (.ship f tag selector) fitting) s f tag i
      ((s.st i).markAttached .ship fitting (s.tagTaken i fitting)) := by
  dsimp only [ShipTakes, exec, execMarkAttached, lineRequest]
  rw [shipLine_ready h hsel fun _ => hm, State.tagTaken_leaveFrame]

end

/-! ### PUSH_HOLD (R14, R15, Table 1-5) -/

/-- The states in which a push with room on the stack is put on top. -/
def LineState.stacks : LineState → Bool
  | .payout | .heave | .tended | .locking | .locked | .fault => true
  | .stowed | .easing | .slack | .rewind | .halted => false

theorem LineState.stacks_iff (state : LineState) : state.stacks = true ↔
    state = .payout ∨ state = .heave ∨ state = .tended ∨ state = .locking ∨ state = .locked ∨ state = .fault := by
  cases state <;> simp [LineState.stacks]

section
variable {c : Station} {x : Hold}

theorem Station.pushHold_of_open (hs : ¬(c.state = .slack ∨ c.state = .rewind ∨ c.state = .stowed ∨ c.state = .halted)) :
    c.pushHold x =
      if Config.holdDepth ≤ c.holds.length then (c.latch .holdFull, refusal .holdFull) else c.acceptHold x := by
  unfold Station.pushHold
  split
  iterate 4 next h => simp [h] at hs
  all_goals rfl

theorem Station.pushHold_stacks (hs : c.state.stacks = true) (hl : c.holds.length < 2) :
    c.pushHold x = ({ c with holds := x :: c.holds }, ⟨.ok, [natByte (c.holds.length + 1)]⟩) := by
  have hstate := (LineState.stacks_iff _).mp hs
  rw [Station.pushHold_of_open (by rcases hstate with h | h | h | h | h | h <;> simp [h]),
    if_neg (show ¬Config.holdDepth ≤ c.holds.length from Nat.not_le.mpr hl)]
  have hne : c.state ≠ .easing := by
    rintro h
    rw [h] at hs
    cases hs
  simp [Station.acceptHold, hne]

theorem Station.pushHold_easing (hs : c.state = .easing) (hh : c.holds = []) :
    c.pushHold x = ({ c.change .tended with holds := [x] }, ⟨.ok, [1]⟩) := by
  have hholds : (c.change .tended).holds = [] := hh
  simp [Station.pushHold, hs, hh, Config.holdDepth, Station.acceptHold, Station.returnToTended, hholds]
  rfl

theorem Station.pushHold_tooLate (hs : c.state = .slack ∨ c.state = .rewind) :
    c.pushHold x = (c, refusal .tooLate) := by
  rcases hs with hs | hs <;> simp [Station.pushHold, hs]

theorem Station.pushHold_wrongState (hs : c.state = .stowed ∨ c.state = .halted) :
    c.pushHold x = (c, refusal .wrongState) := by
  rcases hs with hs | hs <;> simp [Station.pushHold, hs]

theorem Station.pushHold_full
    (hs : ¬(c.state = .slack ∨ c.state = .rewind ∨ c.state = .stowed ∨ c.state = .halted)) (hl : 2 ≤ c.holds.length) :
    c.pushHold x = (c.latch .holdFull, refusal .holdFull) :=
  (Station.pushHold_of_open hs).trans (if_pos hl)

end

/-- Settles O14: a push with room in a state that stacks is one write of the stack. -/
theorem anAcceptedPushPutsTheHoldOnTop : Obligations.AnAcceptedPushPutsTheHoldOnTop := by
  intro i reason s hl hs
  have hs : (s.st i).state.stacks = true := (LineState.stacks_iff _).mpr hs
  constructor
  · intro h
    refine ((hostTakes_pushHold i h reason).taking (Station.pushHold_stacks hs hl) rfl).mono ?_
    exact fun t ⟨honly, hans, htakes⟩ => ⟨honly, hans, htakes.eq_of_silent rfl⟩
  · intro f tag selector h hsel
    refine ((shipTakes_pushHold h hsel reason).taking (Station.pushHold_stacks hs hl)).mono ?_
    exact fun t ⟨honly, hans, htakes⟩ => ⟨honly, hans, htakes.eq_of_silent rfl⟩

/-- What a push in EASING makes of the record, whoever sent it (R15). -/
theorem Station.returned_of_easing {c : Station} (hs : c.state = .easing) (x : Hold) (q : List LineReport) :
    let d : Station := { c.change .tended with holds := [x], toSequencer := q }
    c.MovedTo d .tended ∧ c.KeepsTags d ∧ c.KeepsClamp d ∧ d.Emptied .idle ∧ d.NoOptions ∧ d.holds = [x] ∧
      d.attn = c.attn.changed .easing .tended :=
  ⟨c.movedTo_change .tended, c.keepsTags_change .tended, (c.keepsGround_change .tended).2.1,
    c.emptied_change (new := .tended) (by decide), c.noOptions_change (new := .tended) (by decide), rfl, by rw [← hs]; rfl⟩

/-- Settles O15: a push accepted in EASING is the one change of state to TENDED; every other outcome leaves the line. -/
theorem aPushInOtherStatesReturnsTheLineOrIsRefused : Obligations.APushInOtherStatesReturnsTheLineOrIsRefused := by
  refine ⟨fun f tag selector i reason s h hsel => ?_, fun i reason s h => ?_⟩
  · have takes := shipTakes_pushHold h hsel reason
    refine ⟨fun hs hh => ?_, fun hs => takes.refusing (Station.pushHold_tooLate hs) rfl,
      fun hs => takes.refusing (Station.pushHold_wrongState hs) rfl, fun hs hl => ?_⟩
    · refine (takes.taking (Station.pushHold_easing hs hh)).mono fun t ⟨honly, hans, htakes⟩ => ⟨honly, hans, ?_⟩
      obtain ⟨hmoved, htags, hclamp, hempty, hoptions, hholds, hattn⟩ :=
        Station.returned_of_easing hs ⟨.ship, reason⟩ (t.st i).toSequencer
      have hrep := htakes.reports (new := [.entered .tended]) rfl
      rw [htakes.eq_but_reports]
      exact ⟨hmoved, htags, hclamp, hempty, hoptions, hholds, congrArg (·.put .shipChange true) hattn, hrep⟩
    · refine (takes.taking (Station.pushHold_full hs hl)).mono fun t ⟨honly, hans, htakes⟩ => ⟨honly, hans, ?_⟩
      exact htakes.eq_of_silent rfl
  · have takes := hostTakes_pushHold i h reason
    refine ⟨fun hs hh => ?_, fun hs => takes.refusing (Station.pushHold_tooLate hs) rfl,
      fun hs => takes.refusing (Station.pushHold_wrongState hs) rfl, fun hs hl => ?_⟩
    · refine (takes.taking (Station.pushHold_easing hs hh) rfl).mono fun t ⟨honly, hans, htakes⟩ => ⟨honly, hans, ?_⟩
      obtain ⟨hmoved, htags, hclamp, hempty, hoptions, hholds, hattn⟩ :=
        Station.returned_of_easing hs ⟨.shore, reason⟩ (t.st i).toSequencer
      have hrep := htakes.reports (new := [.entered .tended]) rfl
      rw [htakes.eq_but_reports]
      exact ⟨hmoved, htags, hclamp, hempty, hoptions, hholds, hattn, hrep⟩
    · refine (takes.taking (Station.pushHold_full hs hl) rfl).mono fun t ⟨honly, hans, htakes⟩ => ⟨honly, hans, ?_⟩
      exact htakes.eq_of_silent rfl

/-! ### POP_HOLD (R16, R17) -/

section
variable {c : Station}

theorem Station.popHold_empty (hh : c.holds = []) (holder : Holder) : c.popHold holder = (c, refusal .wrongState) := by
  simp [Station.popHold, hh]

theorem Station.popHold_other {top : Hold} {rest : List Hold} (hh : c.holds = top :: rest) {holder : Holder}
    (ho : top.holder ≠ holder) : c.popHold holder = (c, refusal .holdOrder) := by
  simp [Station.popHold, hh, ho]

/-- The record after a pop: the stack's rest, and the report of an emptied stack. -/
def Station.popped (c : Station) (rest : List Hold) : Station :=
  { c with holds := rest, toSequencer := c.toSequencer ++ if rest = [] then [.holdsEmptied] else [] }

theorem Station.popHold_own {top : Hold} {rest : List Hold} (hh : c.holds = top :: rest) {holder : Holder}
    (ho : top.holder = holder) :
    c.popHold holder = (c.popped rest, ⟨.ok, [holder.code, top.reason, natByte rest.length]⟩) := by
  by_cases hr : rest = [] <;> simp [Station.popHold, hh, ho, Station.popped, hr]

end

/-- Settles O16: the top entry decides, and a pop is one write of the stack with its report. -/
theorem aPopRemovesTheTopEntryOfItsHolder : Obligations.APopRemovesTheTopEntryOfItsHolder := by
  intro i s
  refine ⟨fun h hh => (hostTakes_popHold i h).refusing (Station.popHold_empty hh _) rfl,
    fun f tag selector h hsel hh => (shipTakes_popHold h hsel).refusing (Station.popHold_empty hh _) rfl,
    fun top rest hh => ⟨fun h ho => ?_, fun h ho => ?_, fun f tag selector h hsel => ⟨fun ho => ?_, fun ho => ?_⟩⟩⟩
  · exact (hostTakes_popHold i h).refusing (Station.popHold_other hh (by simp [ho])) rfl
  · refine ((hostTakes_popHold i h).taking (Station.popHold_own hh ho) rfl).mono ?_
    exact fun t ⟨honly, hans, htakes⟩ => ⟨honly, hans, htakes.eq_but_reports, htakes.reports rfl⟩
  · exact (shipTakes_popHold h hsel).refusing (Station.popHold_other hh (by simp [ho])) rfl
  · refine ((shipTakes_popHold h hsel).taking (Station.popHold_own hh ho)).mono ?_
    exact fun t ⟨honly, hans, htakes⟩ => ⟨honly, hans, htakes.eq_but_reports, htakes.reports rfl⟩

/-! ### Band (R18, R19) -/

theorem Band.valid_eq_false_iff (x : Band) :
    x.valid = false ↔ ¬(0 < x.low ∧ x.low + 50 ≤ x.high ∧ x.high ≤ 10000) := by
  rw [← x.valid_iff, Bool.not_eq_true]

section
variable {c : Station}

theorem Station.setBand_taken {x : Band} (hs : c.state.takesBand = true) (hx : x.valid = true) :
    c.setBand x = (c.putBand x, ⟨.ok, []⟩) := by
  simp [Station.setBand, hs, hx]

theorem Station.setBand_badValue {x : Band} (hs : c.state.takesBand = true) (hx : x.valid = false) :
    c.setBand x = (c, refusal .badValue) := by
  simp [Station.setBand, hs, hx]

theorem Station.setBand_wrongState {x : Band} (hs : c.state.takesBand = false) :
    c.setBand x = (c, refusal .wrongState) := by
  simp [Station.setBand, hs]

theorem LineState.takesBand_eq_false_iff (state : LineState) : state.takesBand = false ↔
    state = .stowed ∨ state = .slack ∨ state = .rewind ∨ state = .halted := by
  cases state <;> simp [LineState.takesBand]

end

theorem saturateInto_eq (floor ceiling v : Nat) : saturateInto floor ceiling v = min ceiling (max floor v) := by
  simp only [saturateInto]

/-- Settles O17: state, then values; a ship's values are saturated before the test. -/
theorem aBandIsReplacedOrSaturated : Obligations.ABandIsReplacedOrSaturated := by
  intro i low high s
  constructor
  · intro h
    have takes := hostTakes_setBand i h low high
    refine ⟨fun hs h0 hgap hmax => ?_, fun hs hbad => ?_, fun hs => ?_⟩
    · have hx : Band.valid ⟨low.toNat, high.toNat⟩ = true := (Band.valid_iff _).mpr ⟨h0, hgap, hmax⟩
      refine (takes.taking (Station.setBand_taken hs hx) rfl).mono fun t ⟨honly, hans, htakes⟩ => ⟨honly, hans, ?_⟩
      exact htakes.eq_of_silent rfl
    · exact takes.refusing (Station.setBand_badValue hs ((Band.valid_eq_false_iff _).mpr hbad)) rfl
    · exact takes.refusing (Station.setBand_wrongState ((LineState.takesBand_eq_false_iff _).mpr hs)) rfl
  · intro f tag selector lo hlo hi hhi h hsel
    have takes := shipTakes_requestBand h hsel low high
    have hband : (s.st i).requestBand (s.face f).settings low.toNat high.toNat =
        if (s.st i).state.takesBand = false then (s.st i, refusal .wrongState)
        else if Band.valid ⟨lo, hi⟩ = false then (s.st i, refusal .badValue)
        else ((s.st i).putBand ⟨lo, hi⟩,
          ⟨if lo = low.toNat ∧ hi = high.toNat then .ok else .okClamped, natBytes lo ++ natBytes hi⟩) := by
      simp only [Station.requestBand, saturateInto_eq, ← hlo, ← hhi]
    refine ⟨fun hs h0 hgap hmax => ?_, fun hs hbad => ?_, fun hs => ?_⟩
    · have hx : Band.valid ⟨lo, hi⟩ = true := (Band.valid_iff _).mpr ⟨h0, hgap, hmax⟩
      rw [if_neg (by simp [hs]), if_neg (by simp [hx])] at hband
      refine (takes.taking hband).mono fun t ⟨honly, hans, htakes⟩ => ⟨honly, hans, ?_⟩
      rw [htakes.eq_of_silent (by unfold Station.shipChanged; split <;> rfl)]
      unfold Station.shipChanged
      rw [if_pos (by dsimp only; split <;> rfl)]
      rfl
    · rw [if_neg (by simp [hs]), if_pos ((Band.valid_eq_false_iff _).mpr hbad)] at hband
      exact takes.refusing hband rfl
    · rw [if_pos hs] at hband
      exact takes.refusing hband rfl

/-! ### Fitting tag (R20) -/

theorem tagInRange_iff (tag : Byte) : tagInRange tag = true ↔ 1 ≤ tag.toNat ∧ tag.toNat ≤ 99 := by
  simp [tagInRange]

theorem tagInRange_eq_false {tag : Byte} (h : tag.toNat = 0 ∨ 99 < tag.toNat) : tagInRange tag = false := by
  rw [← Bool.not_eq_true, tagInRange_iff]
  omega

section
variable {c : Station} {holder : Holder} {tag : Byte}

theorem Station.markAttached_taken (hs : c.state.takesMark holder = true) (ht : tagInRange tag = true) :
    c.markAttached holder tag false = ({ c with fittingTag := some tag }, ⟨.ok, []⟩) := by
  simp [Station.markAttached, hs, ht]

theorem Station.markAttached_duplicate (hs : c.state.takesMark holder = true) (ht : tagInRange tag = true) :
    c.markAttached holder tag true = (c, refusal .duplicateTag) := by
  simp [Station.markAttached, hs, ht]

theorem Station.markAttached_badValue (hs : c.state.takesMark holder = true) (ht : tagInRange tag = false)
    (taken : Bool) : c.markAttached holder tag taken = (c, refusal .badValue) := by
  simp [Station.markAttached, hs, ht]

theorem Station.markAttached_wrongState (hs : c.state.takesMark holder = false) (taken : Bool) :
    c.markAttached holder tag taken = (c, refusal .wrongState) := by
  simp [Station.markAttached, hs]

end

theorem LineState.takesMark_shore_iff (state : LineState) : state.takesMark .shore = true ↔
    state = .payout ∨ state = .heave ∨ state = .tended ∨ state = .locking ∨ state = .locked := by
  cases state <;> simp [LineState.takesMark]

theorem LineState.takesMark_shore_eq_false_iff (state : LineState) : state.takesMark .shore = false ↔
    state = .stowed ∨ state = .easing ∨ state = .slack ∨ state = .rewind ∨ state = .fault ∨ state = .halted := by
  cases state <;> simp [LineState.takesMark]

theorem LineState.takesMark_ship (state : LineState) : state.takesMark .ship = decide (state = .payout) := by
  cases state <;> rfl

/-- Settles O18: state by the sender, range, uniqueness, and then one write of the tag. -/
theorem markAttachedSetsTheFittingTag : Obligations.MarkAttachedSetsTheFittingTag := by
  intro i fitting s
  constructor
  · intro h
    have takes := hostTakes_markAttached i h fitting
    refine ⟨fun hs => ?_, fun hs => takes.refusing
      (Station.markAttached_wrongState ((LineState.takesMark_shore_eq_false_iff _).mpr hs) _) rfl⟩
    have hs : (s.st i).state.takesMark .shore = true := (LineState.takesMark_shore_iff _).mpr hs
    refine ⟨fun h1 h99 hfree => ?_, fun h1 h99 htaken => ?_, fun hbad => ?_⟩
    · rw [hfree] at takes
      refine (takes.taking (Station.markAttached_taken hs ((tagInRange_iff _).mpr ⟨h1, h99⟩)) rfl).mono ?_
      exact fun t ⟨honly, hans, htakes⟩ => ⟨honly, hans, htakes.eq_of_silent rfl⟩
    · rw [htaken] at takes
      exact takes.refusing (Station.markAttached_duplicate hs ((tagInRange_iff _).mpr ⟨h1, h99⟩)) rfl
    · exact takes.refusing (Station.markAttached_badValue hs (tagInRange_eq_false hbad) _) rfl
  · intro f tag selector h hm hsel
    have takes := shipTakes_markAttached h hsel hm fitting
    have served (hs : (s.st i).state = .payout) : (s.st i).state.takesMark .ship = true := by
      simp [LineState.takesMark_ship, hs]
    refine ⟨fun hs h1 h99 hfree => ?_, fun hs h1 h99 htaken => ?_, fun hs hbad => ?_, fun hs => ?_⟩
    · rw [hfree] at takes
      refine (takes.taking (Station.markAttached_taken (served hs) ((tagInRange_iff _).mpr ⟨h1, h99⟩))).mono ?_
      exact fun t ⟨honly, hans, htakes⟩ => ⟨honly, hans, htakes.eq_of_silent rfl⟩
    · rw [htaken] at takes
      exact takes.refusing (Station.markAttached_duplicate (served hs) ((tagInRange_iff _).mpr ⟨h1, h99⟩)) rfl
    · exact takes.refusing (Station.markAttached_badValue (served hs) (tagInRange_eq_false hbad) _) rfl
    · exact takes.refusing (Station.markAttached_wrongState (by simp [LineState.takesMark_ship, hs]) _) rfl

end Sys2Proof.Machine
end

section
/-! PROOF. The entries of the line controller, whole: what a segment written comes to, what a clamp order comes to, and so
what each entry makes of a record. -/

namespace Sys2Proof.Machine

/-! ### Segments that end and segments that go on (R85, R86, R87, R93) -/

theorem Station.runEnds_of_empty {c : Station} (hc : c.drive.cur = none) (n : Nat) : Station.runEnds n c = c := by
  cases n with
  | zero => rfl
  | succ n => simp [Station.runEnds, hc]

/-- A current segment that nothing ends: no heave segment with the home switch CLOSED, and its condition not met. -/
def Station.GoesOn (c : Station) (g : Segment) : Prop :=
  (g.kind = .heave → c.drive.homeClosed = false) ∧ c.met g.endCondition = false

theorem Station.runEnds_of_goesOn {c : Station} {g : Segment} (hc : c.drive.cur = some g) (h : c.GoesOn g) (n : Nat) :
    Station.runEnds n c = c := by
  obtain ⟨hhome, hmet⟩ := h
  cases n with
  | zero => rfl
  | succ n =>
    have hno : ¬(g.kind = .heave ∧ c.drive.homeClosed = true) := fun ⟨hk, ht⟩ => by simp [hhome hk] at ht
    simp [Station.runEnds, hc, hno, hmet]

theorem Station.runEnds_of_met {c : Station} {g : Segment} (hc : c.drive.cur = some g)
    (hh : g.kind = .heave → c.drive.homeClosed = false) (hm : c.met g.endCondition = true) (n : Nat) :
    Station.runEnds (n + 1) c = Station.runEnds n (c.endSegment .endCondition) := by
  have hno : ¬(g.kind = .heave ∧ c.drive.homeClosed = true) := fun ⟨hk, ht⟩ => by simp [hh hk] at ht
  simp [Station.runEnds, hc, hno, hm]

theorem Station.runEnds_of_home {c : Station} {g : Segment} (hc : c.drive.cur = some g) (hk : g.kind = .heave)
    (hh : c.drive.homeClosed = true) (n : Nat) :
    Station.runEnds (n + 1) c = Station.runEnds n
      (c.endSegment (if g.endCondition = .homeClosed then .endCondition else .homeLimit)).takeHomeClosed := by
  simp [Station.runEnds, hc, hk, hh]

/-- The last segment ends by its condition. -/
theorem Station.endSegment_last {c : Station} {g : Segment} (hc : c.drive.cur = some g) (hn : c.drive.nxt = none) :
    c.endSegment .endCondition = ({ c with drive := c.drive.stop }).takeConditionEnd g := by
  simp [Station.endSegment, hc, Drive.promote, hn]

/-- A segment ends by its condition with another behind it. -/
theorem Station.endSegment_next {c : Station} {g h : Segment} (hc : c.drive.cur = some g) (hn : c.drive.nxt = some h) :
    c.endSegment .endCondition =
      ({ c with drive := ({ c.drive with nxt := none }).start c.settings.stallTime h }).takeConditionEnd g := by
  simp [Station.endSegment, hc, Drive.promote, hn]

theorem Station.endSegment_homeLimit {c : Station} {g : Segment} (hc : c.drive.cur = some g) :
    c.endSegment .homeLimit = ({ c with drive := c.drive.stop }).takeHomeClosed := by
  simp [Station.endSegment, hc]

theorem Station.cur_change (c : Station) (new : LineState) : (c.change new).drive.cur = none := by
  by_cases h : new = .slack <;> simp [Station.change, h, Drive.stop, Drive.freeDrum]

theorem Station.cur_takeConditionEnd {c : Station} (h : c.drive.cur = none) (g : Segment) :
    (c.takeConditionEnd g).drive.cur = none := by
  unfold Station.takeConditionEnd
  split
  · exact h
  · split
    · exact h
    · exact c.cur_change _
  · exact c.cur_change _
  · exact c.cur_change _
  · exact h

theorem Station.cur_takeHomeClosed {c : Station} (h : c.drive.cur = none) : c.takeHomeClosed.drive.cur = none := by
  unfold Station.takeHomeClosed
  split
  · exact c.cur_change _
  · exact c.cur_change _
  · exact h

/-- The last segment's end is the last end of a settling. -/
theorem Station.settleEnds_met {c : Station} {g : Segment} (hc : c.drive.cur = some g) (hn : c.drive.nxt = none)
    (hh : g.kind = .heave → c.drive.homeClosed = false) (hm : c.met g.endCondition = true) :
    c.settleEnds = ({ c with drive := c.drive.stop }).takeConditionEnd g := by
  rw [← Station.endSegment_last hc hn]
  refine (Station.runEnds_of_met hc hh hm 2).trans (Station.runEnds_of_empty ?_ 2)
  rw [Station.endSegment_last hc hn]
  exact Station.cur_takeConditionEnd rfl g

/-- A heave segment whose home switch is CLOSED ends by that, and the line controller is told of it. -/
theorem Station.settleEnds_home {c : Station} {g : Segment} (hc : c.drive.cur = some g) (hn : c.drive.nxt = none)
    (hk : g.kind = .heave) (hh : c.drive.homeClosed = true) (he : g.endCondition = .homeClosed) :
    c.settleEnds = (({ c with drive := c.drive.stop }).takeConditionEnd g).takeHomeClosed := by
  rw [← Station.endSegment_last hc hn]
  refine (Station.runEnds_of_home hc hk hh 2).trans ?_
  rw [if_pos he]
  refine Station.runEnds_of_empty (Station.cur_takeHomeClosed ?_) 2
  rw [Station.endSegment_last hc hn]
  exact Station.cur_takeConditionEnd rfl g

/-- A heave segment with another end condition ends by home limit. -/
theorem Station.settleEnds_homeLimit {c : Station} {g : Segment} (hc : c.drive.cur = some g)
    (hk : g.kind = .heave) (hh : c.drive.homeClosed = true) (he : g.endCondition ≠ .homeClosed) :
    c.settleEnds = ({ c with drive := c.drive.stop }).takeHomeClosed.takeHomeClosed := by
  rw [← Station.endSegment_homeLimit hc]
  refine (Station.runEnds_of_home hc hk hh 2).trans ?_
  rw [if_neg he]
  refine Station.runEnds_of_empty (Station.cur_takeHomeClosed ?_) 2
  rw [Station.endSegment_homeLimit hc]
  exact Station.cur_takeHomeClosed rfl

/-! ### A segment written (R85) -/

/-- The record with a segment that has just become current. -/
def Station.started (c : Station) (g : Segment) : Station :=
  { c with drive := c.drive.start c.settings.stallTime g }

/-- The record with a segment that became current and ended at once. -/
def Station.spent (c : Station) (kind : SegmentKind) : Station := { c with drive := { c.drive.stop with dir := kind } }

/-- A segment that starts moves no quantity that a condition names. -/
theorem Station.met_started (c : Station) (g : Segment) (e : EndCondition) : (c.started g).met e = c.met e := by
  cases e <;> rfl

section
variable {c : Station} {g : Segment} (hf : c.drive.field = .opened) (hm : c.drive.mode ≠ .running)
include hf hm

theorem Station.write_open : c.write g = (c.started g).settleEnds := by
  simp only [Station.write, if_neg hm, Drive.place_open_idle hf hm, Station.started]

/-- It runs where nothing ends it. -/
theorem Station.write_runs (hg : c.GoesOn g) : c.write g = c.started g := by
  obtain ⟨hhome, hmet⟩ := hg
  rw [Station.write_open hf hm]
  exact Station.runEnds_of_goesOn (c := c.started g) rfl ⟨hhome, (c.met_started g _).trans hmet⟩ 3

/-- It ends at once where its condition stands. -/
theorem Station.write_met (hn : c.drive.nxt = none) (hh : g.kind = .heave → c.drive.homeClosed = false)
    (hmet : c.met g.endCondition = true) : c.write g = (c.spent g.kind).takeConditionEnd g := by
  rw [Station.write_open hf hm]
  exact Station.settleEnds_met (c := c.started g) rfl hn hh ((c.met_started g _).trans hmet)

/-- A segment that winds the line home ends at once where the home switch is CLOSED. -/
theorem Station.write_home (hn : c.drive.nxt = none) (hk : g.kind = .heave) (hh : c.drive.homeClosed = true)
    (he : g.endCondition = .homeClosed) :
    c.write g = ((c.spent .heave).takeConditionEnd g).takeHomeClosed := by
  rw [Station.write_open hf hm, ← hk]
  exact Station.settleEnds_home (c := c.started g) rfl hn hk hh he

/-- Any other heave segment ends by home limit. -/
theorem Station.write_homeLimit (hk : g.kind = .heave) (hh : c.drive.homeClosed = true)
    (he : g.endCondition ≠ .homeClosed) : c.write g = (c.spent .heave).takeHomeClosed.takeHomeClosed := by
  rw [Station.write_open hf hm, ← hk]
  exact Station.settleEnds_homeLimit (c := c.started g) rfl hk hh he

end

theorem Station.mode_change (c : Station) {new : LineState} (h : new ≠ .slack) : (c.change new).drive.mode ≠ .running := by
  simp [Station.change, h, Drive.stop]

theorem Station.nxt_change (c : Station) (new : LineState) : (c.change new).drive.nxt = none := by
  by_cases h : new = .slack <;> simp [Station.change, h, Drive.stop, Drive.freeDrum]

theorem Station.drive_change (c : Station) {new : LineState} (h : new ≠ .slack) : (c.change new).drive = c.drive.stop := by
  simp [Station.change, h]

@[simp] theorem Station.homeClosed_change (c : Station) (new : LineState) :
    (c.change new).drive.homeClosed = c.drive.homeClosed := (c.keepsGround_change new).1.2.2.1

@[simp] theorem Station.payout_change (c : Station) (new : LineState) :
    (c.change new).drive.payout = c.drive.payout := (c.keepsGround_change new).1.1

theorem Station.met_change (c : Station) (new : LineState) (e : EndCondition) : (c.change new).met e = c.met e := by
  cases e <;> simp [Station.met]

/-! ### Clamp orders (R96, R97) -/

/-- The channel after an order that travels, stays, or confirms at once. -/
def Drive.sentTo (d : Drive) (limit : Nat) (p : ClampPosition) : Drive :=
  { d with
    command := some p
    field := if d.field = p.field ∨ d.reading = p.reading then p.field else p.travel
    deadline :=
      if d.field = p.field then d.deadline
      else if d.reading = p.reading then none
      else if d.field = p.travel then d.deadline
      else some limit }

theorem ClampPosition.field_ne_travel (p : ClampPosition) : p.field ≠ p.travel := by cases p <;> decide

/-- The order, where it makes no segment fall. -/
theorem Drive.order_eq_ordered {d : Drive} {p : ClampPosition} (hd : p = .opened ∨ d.stop = d) (limit : Nat) :
    d.order limit p = d.ordered limit p := by
  rw [Drive.order_eq]
  split
  · next hp => rw [hd.resolve_left (by simp [hp])]
  · rfl

/-- An order of a channel whose field is not at the position, and whose switches show it, confirms at once. -/
theorem Station.orderClamp_confirms {c : Station} {p : ClampPosition} (hd : p = .opened ∨ c.drive.stop = c.drive)
    (hf : c.drive.field ≠ p.field) (hr : c.drive.reading = p.reading) :
    c.orderClamp p = ({ c with drive := c.drive.sentTo c.settings.travelLimit p }).takeConfirm p := by
  have hconf : (c.drive.ordered c.settings.travelLimit p).confirms = some p := by
    unfold Drive.ordered
    split
    · next h => simp [Drive.confirms, h.resolve_left hf, hr]
    · simp [Drive.confirms, hr]
  have hsent : (c.drive.ordered c.settings.travelLimit p).confirmed p = c.drive.sentTo c.settings.travelLimit p := by
    unfold Drive.ordered
    split <;> simp [Drive.confirmed, Drive.sentTo, hf, hr]
  unfold Station.orderClamp Station.confirmIfThere
  rw [Drive.order_eq_ordered hd]
  simp only [hconf, hsent]

/-- Any other order sends the clamp, and nothing else. -/
theorem Station.orderClamp_sends {c : Station} {p : ClampPosition} (hd : p = .opened ∨ c.drive.stop = c.drive)
    (h : c.drive.field = p.field ∨ c.drive.reading ≠ p.reading) :
    c.orderClamp p = { c with drive := c.drive.sentTo c.settings.travelLimit p } := by
  have hconf : (c.drive.ordered c.settings.travelLimit p).confirms = none := by
    unfold Drive.ordered
    split
    · rcases h with h | h
      · simp [Drive.confirms, h, p.field_ne_travel]
      · simp [Drive.confirms, h]
    · next hn =>
      have hr := h.resolve_left fun e => hn (.inl e)
      simp [Drive.confirms, hr]
  have hsent : c.drive.ordered c.settings.travelLimit p = c.drive.sentTo c.settings.travelLimit p := by
    unfold Drive.ordered
    by_cases hf : c.drive.field = p.field
    · simp [Drive.sentTo, hf]
    · have hr := h.resolve_left hf
      by_cases ht : c.drive.field = p.travel
      · simp [Drive.sentTo, ht, hr, p.field_ne_travel.symm]
      · simp [Drive.sentTo, hf, ht, hr]
  unfold Station.orderClamp
  rw [Drive.order_eq_ordered hd, hsent]
  exact Station.confirmIfThere_of_none (hsent ▸ hconf)

/-- The states of a line in which a confirmed position changes nothing else: all but LOCKING, EASING and SLACK. -/
theorem Station.takeConfirm_of_still {c : Station} {p : ClampPosition}
    (h : (c.state = .locking → p ≠ .closed) ∧ (c.state = .easing → p = .opened → c.easingPhase ≠ some .opening) ∧
      (c.state = .slack → p = .opened → c.clearRemembered ≠ some true)) : c.takeConfirm p = c := by
  obtain ⟨hlock, hease, hslack⟩ := h
  unfold Station.takeConfirm
  split
  · next hs => exact absurd rfl (hlock hs)
  · next hs => exact if_neg (hease hs rfl)
  · next hs => exact if_neg (hslack hs rfl)
  · rfl

/-- In a state that takes no confirmation the order sends the clamp, confirmed at once or not. -/
theorem Station.orderClamp_still {c : Station} {p : ClampPosition} (hd : p = .opened ∨ c.drive.stop = c.drive)
    (h : (c.state = .locking → p ≠ .closed) ∧ (c.state = .easing → p = .opened → c.easingPhase ≠ some .opening) ∧
      (c.state = .slack → p = .opened → c.clearRemembered ≠ some true)) :
    c.orderClamp p = { c with drive := c.drive.sentTo c.settings.travelLimit p } := by
  by_cases hc : c.drive.field = p.field ∨ c.drive.reading ≠ p.reading
  · exact Station.orderClamp_sends hd hc
  · obtain ⟨hf, hr⟩ := not_or.mp hc
    rw [Station.orderClamp_confirms hd hf (Classical.not_not.mp hr)]
    exact Station.takeConfirm_of_still h

end Sys2Proof.Machine
end

section
/-! PROOF. The line requests (chapter 2): what each comes to, and PAYOUT, TAKE_UP, LOCK, UNLOCK and RELEASE. -/

namespace Sys2Proof.Machine

/-! ### What each request comes to -/

section
variable {s : State} (i : StationId) (h : s.HostReady)
include h

theorem hostTakes_payout_stowed (hs : (s.st i).state = .stowed) (target : Half) :
    HostTakes (.payout i target) s i 2
      ((s.st i).payoutFromStowed ((s.faceOf i).map s.face) target.toNat) := by
  dsimp only [HostTakes, exec, execPayout]
  rw [hostRequest_ready (i := .payout i target) h rfl]
  simp only [hs]
  rfl

theorem hostTakes_payout_payout (hs : (s.st i).state = .payout) (target : Half) :
    HostTakes (.payout i target) s i 2 ((s.st i).extendPayout target.toNat) := by
  dsimp only [HostTakes, exec, execPayout]
  rw [hostRequest_ready (i := .payout i target) h rfl]
  simp only [hs]
  rfl

theorem hostTakes_payout_other (hs : (s.st i).state ≠ .stowed) (hs' : (s.st i).state ≠ .payout) (target : Half) :
    HostTakes (.payout i target) s i 2 (s.st i, refusal .wrongState) := by
  dsimp only [HostTakes, exec, execPayout]
  rw [hostRequest_ready (i := .payout i target) h rfl]
  dsimp only
  split
  · next e => exact absurd e hs
  · next e => exact absurd e hs'
  · rfl

theorem hostTakes_takeUp : HostTakes (.takeUp (.host i)) s i 0 (s.st i).takeUp := by
  dsimp only [HostTakes, exec, execTakeUp, lineRequest]
  exact hostRequest_ready (i := .takeUp (.host i)) h rfl _

theorem hostTakes_lock : HostTakes (.lock i) s i 0 (s.st i).lock := by
  dsimp only [HostTakes, exec, execLock]
  exact hostLine_ready (c := .lock i) h rfl i _

theorem hostTakes_unlock : HostTakes (.unlock i) s i 0 (s.st i).unlock := by
  dsimp only [HostTakes, exec, execUnlock]
  exact hostLine_ready (c := .unlock i) h rfl i _

theorem hostTakes_release : HostTakes (.release i) s i 0 ((s.st i).release (s.inRunningPlan i)) := by
  dsimp only [HostTakes, exec, execRelease]
  exact hostRequest_ready (i := .release i) h rfl _

theorem hostTakes_cancel : HostTakes (.cancel i) s i 0 (s.st i).cancel := by
  dsimp only [HostTakes, exec, execCancel]
  exact hostLine_ready (c := .cancel i) h rfl i _

theorem hostTakes_markClear : HostTakes (.markClear (.host i)) s i 0 (s.st i).markClear := by
  dsimp only [HostTakes, exec, execMarkClear, lineRequest]
  exact hostRequest_ready (i := .markClear (.host i)) h rfl _

theorem hostTakes_clearFault_other (hs : (s.st i).state ≠ .fault) (target : Byte) :
    HostTakes (.clearFault i target) s i 1 (s.st i, refusal .wrongState) := by
  dsimp only [HostTakes, exec, execClearFault]
  rw [hostRequest_ready (i := .clearFault i target) h rfl]
  simp only [if_pos hs]
  rfl

theorem hostTakes_clearFault (hs : (s.st i).state = .fault) {target : Byte} {state : LineState}
    (ht : resumeTarget target = some state) :
    HostTakes (.clearFault i target) s i 1 ((s.st i).clearFaultTo state (s.grantTag i).isSome) := by
  dsimp only [HostTakes, exec, execClearFault]
  rw [hostRequest_ready (i := .clearFault i target) h rfl]
  simp only [ht, if_neg (Classical.not_not.mpr hs)]
  rfl

theorem hostTakes_clearFault_noTarget (hs : (s.st i).state = .fault) {target : Byte}
    (ht : resumeTarget target = none) : HostTakes (.clearFault i target) s i 1 (s.st i, refusal .badValue) := by
  dsimp only [HostTakes, exec, execClearFault]
  rw [hostRequest_ready (i := .clearFault i target) h rfl]
  simp only [ht, if_neg (Classical.not_not.mpr hs)]
  rfl

theorem hostTakes_adopt_other (hs : (s.st i).state ≠ .halted) (target presence tag : Byte) (low high : Half) :
    HostTakes (.adopt i target presence tag low high) s i 7 (s.st i, refusal .wrongState) := by
  dsimp only [HostTakes, exec, execAdopt]
  rw [hostRequest_ready (i := .adopt i target presence tag low high) h rfl]
  simp only [if_pos hs]
  rfl

theorem hostTakes_adopt (hs : (s.st i).state = .halted) {target presence tag : Byte} {low high : Half}
    {state : LineState} {a : Adoption} (ht : adoptTarget target = some state)
    (ha : adoption presence tag low high = some a) :
    HostTakes (.adopt i target presence tag low high) s i 7
      ((s.st i).adoptTo state a (s.grantTag i) (a.tag.any (s.tagTaken i))) := by
  dsimp only [HostTakes, exec, execAdopt]
  rw [hostRequest_ready (i := .adopt i target presence tag low high) h rfl]
  simp only [ht, ha, if_neg (Classical.not_not.mpr hs)]
  rfl

theorem hostTakes_adopt_badValue (hs : (s.st i).state = .halted) {target presence tag : Byte} {low high : Half}
    (ht : adoptTarget target = none ∨ adoption presence tag low high = none) :
    HostTakes (.adopt i target presence tag low high) s i 7 (s.st i, refusal .badValue) := by
  dsimp only [HostTakes, exec, execAdopt]
  rw [hostRequest_ready (i := .adopt i target presence tag low high) h rfl]
  simp only [if_neg (Classical.not_not.mpr hs)]
  split
  · next h1 h2 => simp [h1, h2] at ht
  · rfl

end

section
variable {s : State} {f : Face} {tag : Half} {selector : Byte} {i : StationId} (h : s.ShipReady f tag)
  (hsel : s.Selects f selector i)
include h hsel

theorem shipTakes_takeUp (hm : s.MooringServed f) :
    ShipTakes (.takeUp (.ship f tag selector)) s f tag i (s.st i).takeUp := by
  dsimp only [ShipTakes, exec, execTakeUp, lineRequest]
  exact shipLine_ready h hsel (fun _ => hm) _

theorem shipTakes_markClear : ShipTakes (.markClear (.ship f tag selector)) s f tag i (s.st i).markClear := by
  dsimp only [ShipTakes, exec, execMarkClear, lineRequest]
  exact shipLine_ready h hsel (mooring := false) nofun _

end

/-! ### PAYOUT (R26, R27, R28) -/

/-- The record sent out, before its segment is written. -/
def Station.paidOut (c : Station) (tag : Half) : Station :=
  { c.change .payout with vesselTag := some tag, band := some c.settings.defaultBand }

section
variable {c : Station} {tag : Half} {target : Nat} (hf : c.drive.field = .opened)
include hf

theorem Station.enterPayout_runs (hp : c.drive.payout.any (fun p => decide (target ≤ p)) = false) :
    c.enterPayout tag target = (c.paidOut tag).started (c.payoutSegment target) := by
  refine Station.write_runs (c := c.paidOut tag) ?_ (c.mode_change (by decide)) ⟨nofun, ?_⟩
  · exact (c.field_change .payout).trans hf
  · exact (c.met_change .payout (.payoutGe target)).trans hp

theorem Station.enterPayout_met (hp : c.drive.payout.any (fun p => decide (target ≤ p)) = true) :
    c.enterPayout tag target = ((c.paidOut tag).spent .render).latch .stateReached := by
  refine Station.write_met (c := c.paidOut tag) (g := c.payoutSegment target) ?_ (c.mode_change (by decide))
    (c.nxt_change _) nofun ?_
  · exact (c.field_change .payout).trans hf
  · exact (c.met_change .payout (.payoutGe target)).trans hp

end

theorem Station.payoutFromStowed_taken {c : Station} {x : FaceState} {target : Nat} (h1 : 1 ≤ target)
    (hmax : target ≤ 25000) (hg : x.grant.paysOut = true) (he : x.erActive = false) (hm : c.monitor.failed = false)
    (hh : c.drive.homeClosed = true) (hf : c.drive.field = .opened) :
    c.payoutFromStowed (some x) target = ({ c with releaseClaims := 0 }.enterPayout x.tag target).answers .accepted := by
  have hrange : ¬(target < 1 ∨ Config.payoutMax < target) := by
    simp only [Config.payoutMax]
    omega
  rw [Station.payoutFromStowed, if_neg hrange]
  simp [hg, he, hm, hh, hf]

theorem GrantState.paysOut_iff (g : GrantState) : g.paysOut = true ↔ g = .approach ∨ g = .moored := by
  cases g <;> simp [GrantState.paysOut]

theorem Station.extendPayout_taken {c : Station} {target : Nat} (h1 : 1 ≤ target) (hmax : target ≤ 25000)
    (hlong : c.drive.payout.getD 0 < target) (hf : c.drive.field = .opened) :
    c.extendPayout target =
      (({ c with drive := c.drive.stop }).started (c.payoutSegment target)).answers .accepted := by
  have hrange : ¬(target < 1 ∨ Config.payoutMax < target ∨ target ≤ c.drive.payout.getD 0) := by
    simp only [Config.payoutMax]
    omega
  have hmet : ({ c with drive := c.drive.stop }).met (.payoutGe target) = false := by
    cases hp : c.drive.payout with
    | none => simp [Station.met, Drive.stop, hp]
    | some p =>
      rw [hp] at hlong
      simpa [Station.met, Drive.stop, hp] using hlong
  rw [Station.extendPayout, if_neg hrange,
    Station.write_runs (c := { c with drive := c.drive.stop }) hf (by simp [Drive.stop])
      ⟨by rintro ⟨⟩, hmet⟩]

theorem Station.extendPayout_badValue {c : Station} {target : Nat}
    (h : target = 0 ∨ 25000 < target ∨ target ≤ c.drive.payout.getD 0) :
    c.extendPayout target = (c, refusal .badValue) := by
  refine if_pos ?_
  simp only [Config.payoutMax]
  omega

/-- Settles O19: the checks of R26, then the entry, whose one segment runs or has already reached its target. -/
theorem payoutSendsALineOutAndExtendsIt : Obligations.PayoutSendsALineOutAndExtendsIt := by
  intro i target s h
  refine ⟨fun f hs h1 hmax hface hm he hfail hhome hfield => ?_, fun hs h1 hmax hlong hfield => ?_, fun hs hbad =>
    (hostTakes_payout_payout i h hs target).refusing (Station.extendPayout_badValue hbad) rfl⟩
  · have takes := hostTakes_payout_stowed i h hs target
    rw [hface, Option.map_some,
      Station.payoutFromStowed_taken h1 hmax ((GrantState.paysOut_iff _).mpr hm) he hfail hhome hfield] at takes
    cases hp : (s.st i).drive.payout.any (fun p => decide (target.toNat ≤ p)) with
    | true =>
      rw [Station.enterPayout_met (c := { s.st i with releaseClaims := 0 }) hfield hp] at takes
      refine (takes.taking rfl rfl).mono fun t ⟨honly, hans, htakes⟩ => ⟨honly, hans, ?_⟩
      have hrep := htakes.reports (new := [.entered .payout]) rfl
      rw [htakes.eq_but_reports, if_pos rfl]
      exact ⟨({ s.st i with releaseClaims := 0 } : Station).movedTo_change .payout, rfl, rfl, rfl, rfl,
        ((s.st i).keepsGround_change .payout).2.1, ⟨rfl, rfl, rfl, rfl, rfl⟩, hrep, rfl, ⟨rfl, rfl, rfl, rfl, rfl⟩,
        by rw [← hs]; rfl⟩
    | false =>
      rw [Station.enterPayout_runs (c := { s.st i with releaseClaims := 0 }) hfield hp] at takes
      refine (takes.taking rfl rfl).mono fun t ⟨honly, hans, htakes⟩ => ⟨honly, hans, ?_⟩
      have hrep := htakes.reports (new := [.entered .payout]) rfl
      rw [htakes.eq_but_reports, if_neg (by decide)]
      exact ⟨({ s.st i with releaseClaims := 0 } : Station).movedTo_change .payout, rfl, rfl, rfl, rfl,
        ((s.st i).keepsGround_change .payout).2.1, ⟨rfl, rfl, rfl, rfl, rfl⟩, hrep, rfl, ⟨rfl, rfl, rfl, rfl, rfl⟩,
        by rw [← hs]; rfl⟩
  · have takes := hostTakes_payout_payout i h hs target
    rw [Station.extendPayout_taken h1 hmax hlong hfield] at takes
    refine (takes.taking (congrArg (fun x => (_, (⟨.accepted, [x]⟩ : Answer))) (congrArg LineState.code hs)) rfl).mono ?_
    intro t ⟨honly, hans, htakes⟩
    refine ⟨honly, hans, ?_⟩
    rw [htakes.eq_of_silent rfl]
    exact ⟨rfl, ⟨rfl, rfl, rfl, rfl, rfl, rfl, rfl, rfl⟩, ⟨rfl, rfl, rfl⟩, rfl, rfl, rfl, rfl, rfl, rfl⟩

/-! ### TAKE_UP (R31 to R34) -/

/-- The record in HEAVE with its two take-up segments, the first of them current. -/
def Station.heaving (c : Station) : Station :=
  { c.change .heave with drive := { (c.change .heave).drive.start c.settings.stallTime c.firstTakeUp with
      nxt := some c.secondTakeUp } }

theorem Station.enterHeave_eq {c : Station} (hf : c.drive.field = .opened) :
    c.enterHeave = c.heaving.zeroAtEntry.settleEnds := by
  have hfield : (c.change .heave).drive.field = .opened := (c.field_change .heave).trans hf
  have hfirst : (c.change .heave).drive.place c.settings.stallTime c.firstTakeUp =
      (c.change .heave).drive.start c.settings.stallTime c.firstTakeUp :=
    Drive.place_open_idle hfield (c.mode_change (by decide)) _ _
  have hsecond : ((c.change .heave).drive.start c.settings.stallTime c.firstTakeUp).place c.settings.stallTime
      c.secondTakeUp = c.heaving.drive := Drive.place_open_running
    (d := (c.change .heave).drive.start c.settings.stallTime c.firstTakeUp) hfield rfl _ _
  have hdrive : ((c.change .heave).drive.place c.settings.stallTime c.firstTakeUp).place c.settings.stallTime
      c.secondTakeUp = c.heaving.drive := by rw [hfirst, hsecond]
  exact congrArg (fun d => Station.settleEnds (Station.zeroAtEntry { c.change .heave with drive := d })) hdrive

theorem Station.met_heaving (c : Station) (e : EndCondition) : c.heaving.met e = c.met e := by
  refine Eq.trans ?_ (c.met_change .heave e)
  cases e <;> rfl

theorem Station.zeroAtEntry_of_away {c : Station} (h : c.drive.homeClosed = true ∨ c.drive.payout ≠ some 0) :
    c.zeroAtEntry = c := by
  refine if_neg ?_
  rcases h with h | h <;> simp [Drive.atZeroOpen, h]

theorem Station.zeroAtEntry_of_zero {c : Station} (hh : c.drive.homeClosed = false) (hp : c.drive.payout = some 0) :
    c.zeroAtEntry = c.takeZero := if_pos (by simp [Drive.atZeroOpen, hh, hp])

theorem Station.firstTakeUp_eq {c : Station} {b : Band} (hb : c.band = some b) :
    c.firstTakeUp = ⟨.heave, c.settings.heaveDuty, none, .tensionGe b.low, true⟩ := by
  simp [Station.firstTakeUp, Station.bandOr, hb]

theorem Station.secondTakeUp_eq {c : Station} {b : Band} (hb : c.band = some b) :
    c.secondTakeUp = ⟨.heave, c.settings.heaveDuty, none, .tensionGe b.midpoint, false⟩ := by
  simp [Station.secondTakeUp, Station.bandOr, hb]

/-- The record in HEAVE whose first take-up segment has ended at once: the second runs. -/
def Station.heavingOn (c : Station) : Station :=
  { c.change .heave with drive := (c.change .heave).drive.start c.settings.stallTime c.secondTakeUp }

/-- The record whose both take-up segments have ended at once. -/
def Station.tookUp (c : Station) : Station := (c.heavingOn.change .tended).latch .stateReached

section
variable {c : Station} (hf : c.drive.field = .opened)
include hf

/-- A line already home or at zero has no load (R34). -/
theorem Station.enterHeave_noLoad (h : c.drive.homeClosed = true ∨ c.drive.payout = some 0) :
    c.enterHeave = c.heaving.enterFault .noLoad := by
  have hhome : c.heaving.drive.homeClosed = c.drive.homeClosed := c.homeClosed_change .heave
  have hpay : c.heaving.drive.payout = c.drive.payout := c.payout_change .heave
  rw [Station.enterHeave_eq hf]
  cases hh : c.drive.homeClosed with
  | true =>
    rw [Station.zeroAtEntry_of_away (.inl (hhome.trans hh))]
    exact Station.settleEnds_homeLimit (c := c.heaving) (g := c.firstTakeUp) rfl rfl (hhome.trans hh) nofun
  | false =>
    have hzero : c.drive.payout = some 0 := h.resolve_left (by simp [hh])
    rw [Station.zeroAtEntry_of_zero (hhome.trans hh) (hpay.trans hzero)]
    exact Station.settleEnds_of_empty (c := c.heaving.enterFault .noLoad) (c.heaving.cur_change .fault)

theorem Station.enterHeave_away (hp : c.drive.payout ≠ some 0) : c.enterHeave = c.heaving.settleEnds := by
  have hpay : c.heaving.drive.payout = c.drive.payout := c.payout_change .heave
  rw [Station.enterHeave_eq hf, Station.zeroAtEntry_of_away (.inr (by rwa [hpay]))]

variable (hh : c.drive.homeClosed = false) (hp : c.drive.payout ≠ some 0)
include hh hp

/-- The first segment runs while the tension is below its condition. -/
theorem Station.enterHeave_first (hlow : c.met c.firstTakeUp.endCondition = false) : c.enterHeave = c.heaving := by
  rw [Station.enterHeave_away hf hp]
  exact Station.runEnds_of_goesOn (c := c.heaving) (g := c.firstTakeUp) rfl
    ⟨fun _ => (c.homeClosed_change .heave).trans hh, (c.met_heaving _).trans hlow⟩ 3

/-- The first segment's end at once makes the second current, and that is tested then. -/
theorem Station.enterHeave_next (hlow : c.met c.firstTakeUp.endCondition = true) :
    c.enterHeave = Station.runEnds 2 c.heavingOn := by
  rw [Station.enterHeave_away hf hp]
  refine (Station.runEnds_of_met (c := c.heaving) (g := c.firstTakeUp) rfl
    (fun _ => (c.homeClosed_change .heave).trans hh) ((c.met_heaving _).trans hlow) 2).trans ?_
  rw [Station.endSegment_next (c := c.heaving) (g := c.firstTakeUp) (h := c.secondTakeUp) rfl rfl]
  rfl

theorem Station.enterHeave_second (hlow : c.met c.firstTakeUp.endCondition = true)
    (hmid : c.met c.secondTakeUp.endCondition = false) : c.enterHeave = c.heavingOn := by
  rw [Station.enterHeave_next hf hh hp hlow]
  exact Station.runEnds_of_goesOn (c := c.heavingOn) (g := c.secondTakeUp) rfl
    ⟨fun _ => (c.homeClosed_change .heave).trans hh, (c.met_change .heave c.secondTakeUp.endCondition).trans hmid⟩ 2

theorem Station.enterHeave_done (hlow : c.met c.firstTakeUp.endCondition = true)
    (hmid : c.met c.secondTakeUp.endCondition = true) : c.enterHeave = c.tookUp := by
  have hlast : c.heavingOn.endSegment .endCondition = c.tookUp :=
    Station.endSegment_last (c := c.heavingOn) (g := c.secondTakeUp) rfl (c.nxt_change .heave)
  rw [Station.enterHeave_next hf hh hp hlow, Station.runEnds_of_met (c := c.heavingOn) (g := c.secondTakeUp) rfl
    (fun _ => (c.homeClosed_change .heave).trans hh) ((c.met_change .heave c.secondTakeUp.endCondition).trans hmid) 1,
    hlast]
  exact Station.runEnds_of_empty (c := c.tookUp) (c.heavingOn.cur_change .tended) 1

end

/-- The four outcomes of a take-up. -/
theorem Station.enterHeave_cases {c : Station} (hf : c.drive.field = .opened) :
    c.enterHeave = c.heaving.enterFault .noLoad ∨ c.enterHeave = c.heaving ∨ c.enterHeave = c.heavingOn ∨
      c.enterHeave = c.tookUp := by
  by_cases h : c.drive.homeClosed = true ∨ c.drive.payout = some 0
  · exact .inl (Station.enterHeave_noLoad hf h)
  · obtain ⟨hh, hp⟩ := not_or.mp h
    have hh : c.drive.homeClosed = false := by simpa using hh
    cases hlow : c.met c.firstTakeUp.endCondition with
    | false => exact .inr (.inl (Station.enterHeave_first hf hh hp hlow))
    | true =>
      cases hmid : c.met c.secondTakeUp.endCondition with
      | false => exact .inr (.inr (.inl (Station.enterHeave_second hf hh hp hlow hmid)))
      | true => exact .inr (.inr (.inr (Station.enterHeave_done hf hh hp hlow hmid)))

theorem Station.keepsTags_enterHeave {c : Station} (hf : c.drive.field = .opened) : c.KeepsTags c.enterHeave := by
  rcases Station.enterHeave_cases hf with h | h | h | h <;> rw [h] <;> exact ⟨rfl, rfl, rfl⟩

theorem Station.takeUp_taken {c : Station} (hs : c.state = .payout) (ht : c.fittingTag ≠ none)
    (hm : c.monitor.failed = false) : c.takeUp = c.enterHeave.answers .accepted := by
  simp [Station.takeUp, hs, ht, hm]

theorem all_lt_iff (o : Option Nat) (n : Nat) :
    o.all (fun a => decide (a < n)) = true ↔ o.any (fun a => decide (n ≤ a)) = false := by
  cases o <;> simp

/-- What a TAKE_UP accepted makes of the record, whoever sent it: the outcomes of R31 to R34. -/
theorem Station.tookUp_outcomes {c : Station} {b : Band} (hb : c.band = some b)
    (hf : c.drive.field = .opened) :
    (c.drive.homeClosed = false → c.drive.payout ≠ some 0 →
      (c.average.all (fun a => decide (a < b.low)) = true → c.enterHeave = c.heaving) ∧
        (c.average.any (fun a => decide (b.low ≤ a) && decide (a < b.midpoint)) = true → c.enterHeave = c.heavingOn) ∧
        (c.average.any (fun a => decide (b.low ≤ a) && decide (b.midpoint ≤ a)) = true → c.enterHeave = c.tookUp)) := by
  intro hh hp
  have hlow : c.met c.firstTakeUp.endCondition = c.average.any fun a => decide (b.low ≤ a) := by
    rw [Station.firstTakeUp_eq hb]
    rfl
  have hmid : c.met c.secondTakeUp.endCondition = c.average.any fun a => decide (b.midpoint ≤ a) := by
    rw [Station.secondTakeUp_eq hb]
    rfl
  refine ⟨fun h => ?_, fun h => ?_, fun h => ?_⟩
  · exact Station.enterHeave_first hf hh hp (hlow.trans ((all_lt_iff _ _).mp h))
  · refine Station.enterHeave_second hf hh hp (hlow.trans ?_) (hmid.trans ?_)
    all_goals
      cases ha : c.average with
      | none => simp [ha] at h
      | some a =>
        simp only [ha, Option.any_some, Bool.and_eq_true, decide_eq_true_eq] at h
        simp [h]
  · refine Station.enterHeave_done hf hh hp (hlow.trans ?_) (hmid.trans ?_)
    all_goals
      cases ha : c.average with
      | none => simp [ha] at h
      | some a =>
        simp only [ha, Option.any_some, Bool.and_eq_true, decide_eq_true_eq] at h
        simp [h]

/-- Settles O20: a take-up is one of its four outcomes, by home switch, payout and average. -/
theorem takeUpHeavesATaggedLine : Obligations.TakeUpHeavesATaggedLine := by
  intro i s b hb h hs ht hm hf
  have takes := hostTakes_takeUp i h
  rw [Station.takeUp_taken hs ht hm] at takes
  refine (takes.taking rfl rfl).mono fun t ⟨honly, hans, htakes⟩ => ?_
  obtain ⟨hviews, hclamp, hholds⟩ := (s.st i).keepsGround_enterHeave
  have hstate : (t.st i).state = (s.st i).enterHeave.state := by rw [htakes.eq_but_reports]
  refine ⟨honly, by rw [hstate]; exact hans, ?_⟩
  have outcomes := Station.tookUp_outcomes hb hf
  refine ⟨?_, ?_, ?_, ?_, fun hh hp => ?_, fun hload => ?_⟩
  · rw [htakes]
    exact Station.keepsTags_enterHeave hf
  · rw [htakes]
    exact hviews
  · rw [htakes]
    exact hclamp
  · rw [htakes]
    exact hholds
  · obtain ⟨hfirst, hsecond, hdone⟩ := outcomes hh hp
    refine ⟨fun ha => ?_, fun ha => ?_, fun ha => ?_⟩
    · rw [hfirst ha] at htakes
      have hrep := htakes.reports (new := [.entered .heave]) rfl
      rw [htakes.eq_but_reports]
      refine ⟨(s.st i).movedTo_change .heave, ⟨rfl, rfl, rfl, rfl, rfl⟩, ?_, ?_, by rw [← hs]; rfl, hrep⟩
      · rw [← Station.firstTakeUp_eq hb]
        exact ⟨rfl, rfl, rfl, rfl, rfl⟩
      · exact congrArg some (Station.secondTakeUp_eq hb)
    · rw [hsecond ha] at htakes
      rw [htakes.eq_but_reports, ← Station.secondTakeUp_eq hb]
      exact ⟨(s.st i).movedTo_change .heave, ⟨rfl, rfl, rfl, rfl, rfl⟩, (s.st i).nxt_change .heave⟩
    · rw [hdone ha] at htakes
      rw [htakes.eq_but_reports]
      exact ⟨rfl, (s.st i).heavingOn.emptied_change (new := .tended) (by decide), rfl⟩
  · rw [Station.enterHeave_noLoad hf hload] at htakes
    rw [htakes.eq_but_reports]
    exact ⟨rfl, rfl, (s.st i).heaving.emptied_change (new := .fault) (by decide), rfl⟩

end Sys2Proof.Machine
end

section
/-! PROOF. The line requests that order the clamp, ease a line and wind it home: LOCK, UNLOCK, RELEASE, CANCEL and
MARK_CLEAR (chapter 2). -/

namespace Sys2Proof.Machine

/-! ### Where an order sends the clamp (R96, R97) -/

section
variable {d : Drive} {p : ClampPosition} (limit : Nat)

theorem Drive.sentTo_there (h : d.field = p.field) :
    (d.sentTo limit p).field = d.field ∧ (d.sentTo limit p).deadline = d.deadline := by
  simp [Drive.sentTo, h]

theorem Drive.sentTo_onItsWay (h : d.field = p.travel) (hr : d.reading ≠ p.reading) :
    (d.sentTo limit p).field = d.field ∧ (d.sentTo limit p).deadline = d.deadline := by
  simp [Drive.sentTo, h, hr, p.field_ne_travel.symm]

theorem Drive.sentTo_travels (h : d.field ≠ p.field) (h' : d.field ≠ p.travel) (hr : d.reading ≠ p.reading) :
    (d.sentTo limit p).field = p.travel ∧ (d.sentTo limit p).deadline = some limit := by
  simp [Drive.sentTo, h, h', hr]

theorem Drive.sentTo_confirmed (h : d.field ≠ p.field) (hr : d.reading = p.reading) :
    (d.sentTo limit p).field = p.field ∧ (d.sentTo limit p).deadline = none := by
  simp [Drive.sentTo, h, hr]

theorem Drive.field_sentTo_of_reading (hr : d.reading = p.reading) : (d.sentTo limit p).field = p.field := by
  simp [Drive.sentTo, hr]

end

/-- The record after a change of state, with its clamp sent to a position. -/
def Station.movedSent (c : Station) (new : LineState) (p : ClampPosition) : Station :=
  { c.change new with drive := (c.change new).drive.sentTo c.settings.travelLimit p }

section
variable (c : Station) (p : ClampPosition)

theorem Station.movedTo_movedSent (new : LineState) : c.MovedTo (c.movedSent new p) new := c.movedTo_change new

/-- The drive before the order is the channel's own, but for its slots and timers. -/
theorem Station.channel_change (new : LineState) : (c.change new).drive.field = c.drive.field ∧
    (c.change new).drive.deadline = c.drive.deadline ∧ (c.change new).drive.reading = c.drive.reading := by
  obtain ⟨⟨-, -, -, hreading, -⟩, ⟨-, hfield, hdeadline⟩, -⟩ := c.keepsGround_change new
  exact ⟨hfield, hdeadline, hreading⟩

end

section
variable {c : Station} {p : ClampPosition} (new : LineState)

theorem Station.movedSent_there (h : c.drive.field = p.field) : (c.movedSent new p).drive.field = c.drive.field ∧
    (c.movedSent new p).drive.deadline = c.drive.deadline := by
  obtain ⟨hf, hd, -⟩ := c.channel_change new
  obtain ⟨hfield, hdeadline⟩ := Drive.sentTo_there c.settings.travelLimit (hf.trans h)
  exact ⟨hfield.trans hf, hdeadline.trans hd⟩

theorem Station.movedSent_onItsWay (h : c.drive.field = p.travel) (hr : c.drive.reading ≠ p.reading) :
    (c.movedSent new p).drive.field = c.drive.field ∧ (c.movedSent new p).drive.deadline = c.drive.deadline := by
  obtain ⟨hf, hd, hreading⟩ := c.channel_change new
  obtain ⟨hfield, hdeadline⟩ := Drive.sentTo_onItsWay c.settings.travelLimit (hf.trans h) (by rwa [hreading])
  exact ⟨hfield.trans hf, hdeadline.trans hd⟩

theorem Station.movedSent_travels (h : c.drive.field ≠ p.field) (h' : c.drive.field ≠ p.travel)
    (hr : c.drive.reading ≠ p.reading) :
    (c.movedSent new p).drive.field = p.travel ∧
      (c.movedSent new p).drive.deadline = some c.settings.travelLimit := by
  obtain ⟨hf, -, hreading⟩ := c.channel_change new
  exact Drive.sentTo_travels c.settings.travelLimit (by rwa [hf]) (by rwa [hf]) (by rwa [hreading])

theorem Station.movedSent_confirmed (h : c.drive.field ≠ p.field) (hr : c.drive.reading = p.reading) :
    (c.movedSent new p).drive.field = p.field ∧ (c.movedSent new p).drive.deadline = none := by
  obtain ⟨hf, -, hreading⟩ := c.channel_change new
  exact Drive.sentTo_confirmed c.settings.travelLimit (by rwa [hf]) (hreading.trans hr)

theorem Station.field_movedSent_of_reading (hr : c.drive.reading = p.reading) :
    (c.movedSent new p).drive.field = p.field :=
  Drive.field_sentTo_of_reading c.settings.travelLimit ((c.channel_change new).2.2.trans hr)

theorem Station.field_movedSent_of_field (h : c.drive.field = p.field) : (c.movedSent new p).drive.field = p.field :=
  (Station.movedSent_there new h).1.trans h

end

/-! ### The entries that order the clamp -/

theorem Station.stop_change (c : Station) {new : LineState} (h : new ≠ .slack) :
    (c.change new).drive.stop = (c.change new).drive := by
  rw [c.drive_change h]
  rfl

theorem Station.enterTendedOpening_eq (c : Station) : c.enterTendedOpening = c.movedSent .tended .opened :=
  Station.orderClamp_still (.inl rfl) (by simp)

theorem Station.enterLockedClosing_eq (c : Station) : c.enterLockedClosing = c.movedSent .locked .closed :=
  Station.orderClamp_still (.inr (c.stop_change (by decide))) (by simp)

theorem Station.enterSlackOpening_eq (c : Station) : c.enterSlackOpening = c.movedSent .slack .opened :=
  Station.orderClamp_still (.inl rfl) (by simp [Station.change])

/-- A lock whose switches already show the clamp closed is confirmed at once. -/
theorem Station.enterLocking_confirms {c : Station} (hf : c.drive.field ≠ .closed) (hr : c.drive.reading = .closedOnly) :
    c.enterLocking = ((c.movedSent .locking .closed).change .locked).latch .stateReached := by
  obtain ⟨hfield, -, hreading⟩ := c.channel_change .locking
  exact Station.orderClamp_confirms (c := c.change .locking) (p := .closed) (.inr (c.stop_change (by decide)))
    (by rw [hfield]; exact hf) (hreading.trans hr)

theorem Station.enterLocking_sends {c : Station} (h : c.drive.field = .closed ∨ c.drive.reading ≠ .closedOnly) :
    c.enterLocking = c.movedSent .locking .closed := by
  obtain ⟨hfield, -, hreading⟩ := c.channel_change .locking
  refine Station.orderClamp_sends (c := c.change .locking) (p := .closed) (.inr (c.stop_change (by decide))) ?_
  rwa [hfield, hreading]

/-! ### LOCK and UNLOCK (R38, R40) -/

theorem Station.lock_taken {c : Station} (hs : c.state = .tended) : c.lock = c.enterLocking.answers .accepted :=
  if_pos hs

theorem Station.unlock_taken {c : Station} (hs : c.state = .locking ∨ c.state = .locked) :
    c.unlock = (c.movedSent .tended .opened).answers .ok := by
  rw [← c.enterTendedOpening_eq]
  exact if_pos hs

/-- Settles O21: the clamp is sent from where it stands, and only a lock can be confirmed into another state. -/
theorem lockAndUnlockOrderTheClamp : Obligations.LockAndUnlockOrderTheClamp := by
  intro i s h
  refine ⟨fun hs => ?_, fun hs => ?_⟩
  · have takes := hostTakes_lock i h
    rw [Station.lock_taken hs] at takes
    by_cases hc : (s.st i).drive.field ≠ .closed ∧ (s.st i).drive.reading = .closedOnly
    · obtain ⟨hfield, hreading⟩ := hc
      rw [Station.enterLocking_confirms hfield hreading] at takes
      refine (takes.taking rfl rfl).mono fun t ⟨honly, hans, htakes⟩ => ⟨honly, ?_⟩
      obtain ⟨hf, hd⟩ := Station.movedSent_confirmed .locking (p := .closed) hfield hreading
      rw [if_pos ⟨hfield, hreading⟩, htakes.eq_but_reports]
      exact ⟨⟨rfl, rfl, rfl⟩, ((s.st i).movedTo_change .locking).2.2, rfl, ⟨rfl, rfl, rfl, rfl, rfl⟩,
        ⟨rfl, rfl, rfl, rfl, rfl⟩, rfl, hans, rfl, hf, hd, rfl⟩
    · have hsends : (s.st i).drive.field = .closed ∨ (s.st i).drive.reading ≠ .closedOnly := by
        by_cases hclosed : (s.st i).drive.field = .closed
        · exact .inl hclosed
        · exact .inr fun hreading => hc ⟨hclosed, hreading⟩
      rw [Station.enterLocking_sends hsends] at takes
      refine (takes.taking rfl rfl).mono fun t ⟨honly, hans, htakes⟩ => ⟨honly, ?_⟩
      have hrep := htakes.reports (new := [.entered .locking]) rfl
      rw [if_neg hc, htakes.eq_but_reports]
      refine ⟨⟨rfl, rfl, rfl⟩, ((s.st i).movedTo_change .locking).2.2, rfl, ⟨rfl, rfl, rfl, rfl, rfl⟩,
        ⟨rfl, rfl, rfl, rfl, rfl⟩, rfl, hans, (s.st i).movedTo_movedSent .closed .locking, by rw [← hs]; rfl, hrep, ?_⟩
      split
      · next hway =>
        rcases hsends with hthere | hread
        · exact Station.movedSent_there (p := .closed) .locking hthere
        · rcases hway with hthere | htravel
          · exact Station.movedSent_there (p := .closed) .locking hthere
          · exact Station.movedSent_onItsWay (p := .closed) .locking htravel hread
      · next hway =>
        obtain ⟨hthere, htravel⟩ := not_or.mp hway
        exact Station.movedSent_travels (p := .closed) .locking hthere htravel (hsends.resolve_left hthere)
  · have takes := hostTakes_unlock i h
    rw [Station.unlock_taken hs] at takes
    refine (takes.taking rfl rfl).mono fun t ⟨honly, hans, htakes⟩ => ⟨honly, hans, ?_⟩
    have hrep := htakes.reports (new := [.entered .tended]) rfl
    rw [htakes.eq_but_reports]
    refine ⟨(s.st i).movedTo_movedSent .opened .tended, ⟨rfl, rfl, rfl⟩, rfl, ⟨rfl, rfl, rfl, rfl, rfl⟩,
      ⟨rfl, rfl, rfl, rfl, rfl⟩, rfl, rfl, hrep, ?_⟩
    split
    · next hc =>
      obtain ⟨hfield, hreading⟩ := hc
      exact Station.movedSent_confirmed (p := .opened) .tended hfield hreading
    · next hc =>
      split
      · next hway =>
        rcases hway with hthere | htravel
        · exact Station.movedSent_there (p := .opened) .tended hthere
        · refine Station.movedSent_onItsWay (p := .opened) .tended htravel fun hr => hc ⟨?_, hr⟩
          rw [htravel]
          decide
      · next hway =>
        obtain ⟨hthere, htravel⟩ := not_or.mp hway
        exact Station.movedSent_travels (p := .opened) .tended hthere htravel fun hr => hc ⟨hthere, hr⟩

/-! ### RELEASE (R43 to R47) -/

/-- The record in EASING with a phase and the ease limit running. -/
def Station.eased (c : Station) (phase : EasingPhase) : Station :=
  { c.change .easing with easeTimer := some c.settings.easeLimit, easingPhase := some phase }

/-- The same with the clamp sent to OPEN. -/
def Station.easedSent (c : Station) (phase : EasingPhase) : Station :=
  { c.eased phase with drive := (c.change .easing).drive.sentTo c.settings.travelLimit .opened }

/-- The record whose release has ended at once. -/
def Station.slackened (c : Station) : Station :=
  (((c.easedSent .rendering).spent .render).change .slack).latch .stateReached

section
variable {c : Station}

theorem Station.enterEasing_opened (hf : c.drive.field = .opened) :
    c.enterEasing = (c.easedSent .rendering).write c.easeSegment := by
  have hsent : (c.eased .rendering).orderClamp .opened = c.easedSent .rendering :=
    Station.orderClamp_sends (.inl rfl) (.inl ((c.field_change .easing).trans hf))
  unfold Station.enterEasing
  simp only [hf]
  exact congrArg Station.startRendering hsent

theorem Station.enterEasing_opening (hf : c.drive.field = .opening) : c.enterEasing = c.eased .opening := by
  unfold Station.enterEasing
  simp only [hf]
  rfl

theorem Station.enterEasing_orders (hf : c.drive.field ≠ .opened) (hf' : c.drive.field ≠ .opening) :
    c.enterEasing = (c.eased .opening).orderClamp .opened := by
  unfold Station.enterEasing
  dsimp only
  split
  · next h => exact absurd h hf
  · next h => exact absurd h hf'
  all_goals rfl

theorem Station.enterEasing_travels (hf : c.drive.field ≠ .opened) (hf' : c.drive.field ≠ .opening)
    (hr : c.drive.reading ≠ .openOnly) : c.enterEasing = c.easedSent .opening := by
  rw [Station.enterEasing_orders hf hf']
  exact Station.orderClamp_sends (c := c.eased .opening) (.inl rfl)
    (.inr (by rw [show (c.eased .opening).drive.reading = _ from (c.channel_change .easing).2.2]; exact hr))

theorem Station.enterEasing_confirms (hf : c.drive.field ≠ .opened) (hf' : c.drive.field ≠ .opening)
    (hr : c.drive.reading = .openOnly) : c.enterEasing = (c.easedSent .rendering).write c.easeSegment := by
  rw [Station.enterEasing_orders hf hf']
  exact Station.orderClamp_confirms (c := c.eased .opening) (p := .opened) (.inl rfl)
    (by rw [show (c.eased .opening).drive.field = _ from c.field_change .easing]; exact hf)
    ((c.channel_change .easing).2.2.trans hr)

/-- The render of a release runs while the tension is at or above the threshold. -/
theorem Station.easing_runs (hf : (c.easedSent .rendering).drive.field = .opened)
    (ha : c.average.any (fun a => decide (a ≤ c.settings.releaseThreshold - 1)) = false) :
    (c.easedSent .rendering).write c.easeSegment = (c.easedSent .rendering).started c.easeSegment :=
  Station.write_runs hf (c.mode_change (by decide)) ⟨nofun, ha⟩

theorem Station.easing_ends (hf : (c.easedSent .rendering).drive.field = .opened)
    (ha : c.average.any (fun a => decide (a ≤ c.settings.releaseThreshold - 1)) = true) :
    (c.easedSent .rendering).write c.easeSegment = c.slackened :=
  Station.write_met (g := c.easeSegment) hf (c.mode_change (by decide)) (c.nxt_change .easing) nofun ha

/-- Each outcome of a release keeps tags, views and holds. -/
theorem Station.keeps_enterEasing (c : Station) :
    c.KeepsTags c.enterEasing ∧ c.KeepsViews c.enterEasing ∧ c.enterEasing.holds = c.holds := by
  have hviews := (c.movedTo_change .easing).2.2
  have hwrite (hf : (c.easedSent .rendering).drive.field = .opened)
      (he : c.enterEasing = (c.easedSent .rendering).write c.easeSegment) :
      c.KeepsTags c.enterEasing ∧ c.KeepsViews c.enterEasing ∧ c.enterEasing.holds = c.holds := by
    rw [he]
    cases ha : c.average.any (fun a => decide (a ≤ c.settings.releaseThreshold - 1)) with
    | true =>
      rw [Station.easing_ends hf ha]
      exact ⟨⟨rfl, rfl, rfl⟩, hviews, rfl⟩
    | false =>
      rw [Station.easing_runs hf ha]
      exact ⟨⟨rfl, rfl, rfl⟩, hviews, rfl⟩
  by_cases hf : c.drive.field = .opened
  · exact hwrite (Station.field_movedSent_of_field (p := .opened) .easing hf) (Station.enterEasing_opened hf)
  by_cases hf' : c.drive.field = .opening
  · rw [Station.enterEasing_opening hf']
    exact ⟨⟨rfl, rfl, rfl⟩, hviews, rfl⟩
  by_cases hr : c.drive.reading = .openOnly
  · exact hwrite (Station.field_movedSent_of_reading (p := .opened) .easing hr) (Station.enterEasing_confirms hf hf' hr)
  · rw [Station.enterEasing_travels hf hf' hr]
    exact ⟨⟨rfl, rfl, rfl⟩, hviews, rfl⟩

theorem Station.release_eases (hs : c.state = .tended ∨ c.state = .locked) (hh : c.holds = []) :
    c.release false = c.enterEasing.answers .accepted := by
  rcases hs with hs | hs <;> simp [Station.release, hs, hh]

theorem Station.release_slackens (hs : c.state = .payout) (hh : c.holds = []) (ht : c.fittingTag ≠ none) :
    c.release false = ((c.change .slack).latch .stateReached).answers .accepted := by
  simp [Station.release, hs, hh, ht]

end

theorem all_gt_iff (o : Option Nat) (n : Nat) :
    o.all (fun a => decide (n < a)) = true ↔ o.any (fun a => decide (a ≤ n)) = false := by
  cases o <;> simp

/-- Settles O22: a release is one outcome of `enterEasing`, by clamp field, switches and average. -/
theorem releaseLetsALineGo : Obligations.ReleaseLetsALineGo := by
  intro i s h hplan hholds
  have takes := hostTakes_release i h
  rw [hplan] at takes
  refine ⟨fun hs => ?_, fun hs ht => ?_⟩
  · rw [Station.release_eases hs hholds] at takes
    refine (takes.taking rfl rfl).mono fun t ⟨honly, hans, htakes⟩ => ?_
    have hstate : (t.st i).state = (s.st i).enterEasing.state := by rw [htakes.eq_but_reports]
    obtain ⟨htags, hviews, hkept⟩ := (s.st i).keeps_enterEasing
    refine ⟨honly, by rw [hstate]; exact hans, by rw [htakes]; exact htags, by rw [htakes]; exact hviews,
      by rw [htakes]; exact hkept.trans hholds, fun hf ha => ?_, fun hf ha => ?_, fun hf hf' hr => ?_,
      fun hf hf' hr ha => ?_, fun hf => ?_⟩
    · have hfield := Station.field_movedSent_of_field (p := .opened) .easing hf
      rw [Station.enterEasing_opened hf, Station.easing_runs hfield ((all_gt_iff _ _).mp ha)] at htakes
      have hrep := htakes.reports (new := [.entered .easing]) rfl
      rw [htakes.eq_but_reports]
      exact ⟨(s.st i).movedTo_movedSent .opened .easing, rfl, rfl, hfield, ⟨rfl, rfl, rfl, rfl, rfl⟩, rfl, hrep⟩
    · have hfield := Station.field_movedSent_of_field (p := .opened) .easing hf
      rw [Station.enterEasing_opened hf, Station.easing_ends hfield ha] at htakes
      have hrep := htakes.reports (new := [.entered .easing, .entered .slack]) (List.append_assoc _ _ _)
      rw [htakes.eq_but_reports]
      exact ⟨rfl, ⟨rfl, rfl, rfl, rfl, rfl⟩, rfl, rfl, rfl, rfl, hrep⟩
    · rw [Station.enterEasing_travels hf hf' hr] at htakes
      obtain ⟨hfield, hdeadline⟩ := Station.movedSent_travels (p := .opened) .easing hf hf' hr
      rw [htakes.eq_but_reports]
      exact ⟨(s.st i).movedTo_movedSent .opened .easing, rfl, rfl, hfield, rfl, hdeadline, ⟨rfl, rfl, rfl, rfl, rfl⟩⟩
    · obtain ⟨hfield, hdeadline⟩ := Station.movedSent_confirmed (p := .opened) .easing hf hr
      rw [Station.enterEasing_confirms hf hf' hr, Station.easing_runs hfield ((all_gt_iff _ _).mp ha)] at htakes
      rw [htakes.eq_but_reports]
      exact ⟨(s.st i).movedTo_movedSent .opened .easing, rfl, hfield, hdeadline, rfl, ⟨rfl, rfl, rfl, rfl, rfl⟩⟩
    · rw [Station.enterEasing_opening hf] at htakes
      rw [htakes.eq_but_reports]
      exact ⟨(s.st i).movedTo_change .easing, rfl, ((s.st i).keepsGround_change .easing).2.1,
        ⟨rfl, rfl, rfl, rfl, rfl⟩⟩
  · rw [Station.release_slackens hs hholds ht] at takes
    refine (takes.taking rfl rfl).mono fun t ⟨honly, hans, htakes⟩ => ⟨honly, hans, ?_⟩
    have hrep := htakes.reports (new := [.entered .slack]) rfl
    rw [htakes.eq_but_reports]
    exact ⟨(s.st i).movedTo_change .slack, ⟨rfl, rfl, rfl⟩, ((s.st i).keepsGround_change .slack).2.1,
      ⟨rfl, rfl, rfl, rfl, rfl⟩, hholds, rfl, by rw [← hs]; rfl, hrep⟩

/-! ### CANCEL and MARK_CLEAR (R29, R52, R54, R56, R93) -/

/-- The record about to creep: the drive stopped, the overrun at which the creep is spent noted. -/
def Station.creeping (c : Station) : Station :=
  { c with drive := c.drive.stop, creepSpent := some (c.drive.overrun + c.settings.homeMargin) }

section
variable {c : Station} (hf : c.drive.field = .opened) (hm : c.drive.mode ≠ .running)
include hf hm

/-- With the home switch CLOSED the line is home at once. -/
theorem Station.startRewind_stows (hs : c.state = .rewind) (hn : c.drive.nxt = none)
    (hh : c.drive.homeClosed = true) :
    c.startRewind = (c.spent .heave).enterStowed.latch .stateReached := by
  have hwrite : c.write c.rewindSegment = (c.spent .heave).enterStowed.latch .stateReached := by
    rw [Station.write_home hf hm hn rfl hh rfl]
    simp [Station.takeConditionEnd, Station.takeHomeClosed, Station.spent, hs, Station.latch, Station.enterStowed]
  rw [Station.startRewind, hwrite]
  exact Station.zeroAtEntry_of_away (.inl hh)

variable (hh : c.drive.homeClosed = false)
include hh

theorem Station.startRewind_open : c.startRewind = (c.started c.rewindSegment).zeroAtEntry :=
  congrArg Station.zeroAtEntry (Station.write_runs hf hm ⟨fun _ => hh, hh⟩)

theorem Station.startRewind_runs (hp : c.drive.payout ≠ some 0) : c.startRewind = c.started c.rewindSegment := by
  rw [Station.startRewind_open hf hm hh]
  exact Station.zeroAtEntry_of_away (.inr hp)

variable (hs : c.state = .rewind) (hp : c.drive.payout = some 0)
include hs hp

/-- At zero the line creeps by its home margin. -/
theorem Station.startRewind_creeps (hz : c.settings.homeMargin ≠ 0) :
    c.startRewind = (c.started c.rewindSegment).creeping.started c.creepSegment := by
  rw [Station.startRewind_open hf hm hh,
    Station.zeroAtEntry_of_zero (c := c.started c.rewindSegment) hh hp]
  have hzero : (c.started c.rewindSegment).takeZero = (c.started c.rewindSegment).creeping.write c.creepSegment := by
    simp only [Station.takeZero, Station.started, hs, if_neg hz]
    rfl
  rw [hzero]
  exact Station.write_runs hf nofun ⟨fun _ => hh, hh⟩

/-- Without a margin that is a fault. -/
theorem Station.startRewind_faults (hz : c.settings.homeMargin = 0) :
    c.startRewind = (c.started c.rewindSegment).enterFault .home := by
  rw [Station.startRewind_open hf hm hh,
    Station.zeroAtEntry_of_zero (c := c.started c.rewindSegment) hh hp]
  simp only [Station.takeZero, Station.started, hs, if_pos hz]

end

theorem Station.cancel_taken {c : Station} (hs : c.state = .payout) (ht : c.fittingTag = none) (hh : c.holds = []) :
    c.cancel = c.enterRewind.answers .accepted := by
  simp [Station.cancel, hs, ht, hh]

theorem Station.markClear_opened {c : Station} (hs : c.state = .slack) (hf : c.drive.field = .opened) :
    c.markClear = c.enterRewind.answers .accepted := by
  simp [Station.markClear, Station.takeClear, hs, hf]

theorem Station.markClear_remembered {c : Station} (hs : c.state = .slack) (hf : c.drive.field ≠ .opened) :
    c.markClear = ({ c with clearRemembered := some true }, ⟨.accepted, [7]⟩) := by
  simp [Station.markClear, Station.takeClear, Station.answers, hs, hf]
  rfl

/-- What winding a line home makes of its record: the outcomes of R54, R56 and R93. -/
theorem Station.enterRewind_outcomes {c : Station} (hf : c.drive.field = .opened) :
    (c.drive.homeClosed = false → c.drive.payout ≠ some 0 →
      c.enterRewind = (c.change .rewind).started c.rewindSegment) ∧
    (c.drive.homeClosed = false → c.drive.payout = some 0 → c.settings.homeMargin ≠ 0 →
      c.enterRewind = ((c.change .rewind).started c.rewindSegment).creeping.started c.creepSegment) ∧
    (c.drive.homeClosed = false → c.drive.payout = some 0 → c.settings.homeMargin = 0 →
      c.enterRewind = ((c.change .rewind).started c.rewindSegment).enterFault .home) ∧
    (c.drive.homeClosed = true →
      c.enterRewind = ((c.change .rewind).spent .heave).enterStowed.latch .stateReached) := by
  have hfield : (c.change .rewind).drive.field = .opened := (c.field_change .rewind).trans hf
  have hmode : (c.change .rewind).drive.mode ≠ .running := c.mode_change (by decide)
  refine ⟨fun hh hp => ?_, fun hh hp hz => ?_, fun hh hp hz => ?_, fun hh => ?_⟩
  · exact Station.startRewind_runs hfield hmode ((c.homeClosed_change _).trans hh) (by rwa [c.payout_change])
  · exact Station.startRewind_creeps hfield hmode ((c.homeClosed_change _).trans hh) rfl ((c.payout_change _).trans hp) hz
  · exact Station.startRewind_faults hfield hmode ((c.homeClosed_change _).trans hh) rfl ((c.payout_change _).trans hp) hz
  · exact Station.startRewind_stows hfield hmode rfl (c.nxt_change _) ((c.homeClosed_change _).trans hh)

/-- Settles O23: both requests come to `enterRewind`, or to the clear remembered. -/
theorem cancelAndMarkClearWindALineHome : Obligations.CancelAndMarkClearWindALineHome := by
  intro i c s h hc
  refine ⟨fun hf => ?_, fun hclear hf => ?_⟩
  · have takes : HostTakes c s i 0 ((s.st i).enterRewind.answers .accepted) := by
      rcases hc with ⟨rfl, hs, ht, hh⟩ | ⟨rfl, hs⟩
      · rw [← Station.cancel_taken hs ht hh]
        exact hostTakes_cancel i h
      · rw [← Station.markClear_opened hs hf]
        exact hostTakes_markClear i h
    refine (takes.taking rfl rfl).mono fun t ⟨honly, hans, htakes⟩ => ?_
    have hstate : (t.st i).state = (s.st i).enterRewind.state := by rw [htakes.eq_but_reports]
    obtain ⟨hviews, hclamp, hholds⟩ := (s.st i).keepsGround_enterRewind
    obtain ⟨hruns, hcreeps, hfaults, hstows⟩ := Station.enterRewind_outcomes hf
    refine ⟨honly, by rw [hstate]; exact hans, by rw [htakes]; exact hholds, by rw [htakes]; exact hviews,
      by rw [htakes]; exact hclamp, fun hh hp => ?_, fun hh hp hz => ?_, fun hh hp hz => ?_, fun hh => ?_⟩
    · rw [hruns hh hp] at htakes
      have hrep := htakes.reports (new := [.entered .rewind]) rfl
      rw [htakes.eq_but_reports]
      exact ⟨(s.st i).movedTo_change .rewind, ⟨rfl, rfl, rfl⟩, ⟨rfl, rfl, rfl, rfl, rfl⟩, ⟨rfl, rfl, rfl, rfl, rfl⟩,
        rfl, hrep⟩
    · rw [hcreeps hh hp hz] at htakes
      rw [htakes.eq_but_reports]
      exact ⟨(s.st i).movedTo_change .rewind, ⟨rfl, rfl, rfl, rfl, rfl⟩, rfl⟩
    · rw [hfaults hh hp hz] at htakes
      rw [htakes.eq_but_reports]
      exact ⟨rfl, rfl, ⟨rfl, rfl, rfl, rfl, rfl⟩⟩
    · rw [hstows hh] at htakes
      rw [htakes.eq_but_reports]
      exact ⟨rfl, rfl, rfl, rfl, ⟨rfl, rfl, rfl, rfl, rfl⟩, rfl⟩
  · rcases hc with ⟨rfl, -⟩ | ⟨rfl, hs⟩
    · cases hclear
    · refine ((hostTakes_markClear i h).taking (Station.markClear_remembered hs hf) rfl).mono ?_
      exact fun t ⟨honly, hans, htakes⟩ => ⟨honly, hans, htakes.eq_of_silent rfl⟩

end Sys2Proof.Machine
end

section
/-! PROOF. CLEAR_FAULT and ADOPT (chapter 8), the refusals of the line requests, and a ship's TAKE_UP and MARK_CLEAR. -/

namespace Sys2Proof.Machine

/-! ### CLEAR_FAULT (R152 to R156) -/

section
variable {c : Station} {granted : Bool}

theorem Station.clearFaultTo_tended (hg : granted = true) (hf : c.drive.field = .opened) (ht : c.fittingTag ≠ none)
    (hm : c.monitor.failed = false) :
    c.clearFaultTo .tended granted = (c.movedSent .tended .opened).answers .ok := by
  simp [Station.clearFaultTo, hg, hf, ht, hm, Station.enterTendedOpening_eq]

theorem Station.clearFaultTo_tended_wrongState (h : granted = false ∨ c.drive.field ≠ .opened ∨ c.fittingTag = none) :
    c.clearFaultTo .tended granted = (c, refusal .wrongState) := if_pos h

theorem Station.clearFaultTo_tended_sensor (hg : granted = true) (hf : c.drive.field = .opened)
    (ht : c.fittingTag ≠ none) (hm : c.monitor.failed = true) :
    c.clearFaultTo .tended granted = (c, refusal .sensor) := by
  simp [Station.clearFaultTo, hg, hf, ht, hm]

theorem Station.clearFaultTo_locked (hg : granted = true) (hf : c.drive.field = .closed) :
    c.clearFaultTo .locked granted = (c.movedSent .locked .closed).answers .ok := by
  simp [Station.clearFaultTo, hg, hf, Station.enterLockedClosing_eq]

theorem Station.clearFaultTo_locked_wrongState (h : granted = false ∨ c.drive.field ≠ .closed) :
    c.clearFaultTo .locked granted = (c, refusal .wrongState) := if_pos h

theorem Station.clearFaultTo_slack (hh : c.holds = []) :
    c.clearFaultTo .slack granted = (c.movedSent .slack .opened).answers .ok := by
  simp [Station.clearFaultTo, hh, Station.enterSlackOpening_eq]

theorem Station.clearFaultTo_slack_held (hh : c.holds ≠ []) : c.clearFaultTo .slack granted = (c, refusal .held) :=
  if_pos hh

theorem Station.clearFaultTo_rewind (ht : c.fittingTag = none ∨ c.fault.map FaultInfo.cause = some .parted)
    (hh : c.holds = []) (hf : c.drive.field = .opened) :
    c.clearFaultTo .rewind granted = (c.movedSent .rewind .opened).startRewind.answers .accepted := by
  have hrewind : c.enterRewindOpening = (c.movedSent .rewind .opened).startRewind :=
    congrArg Station.startRewind (Station.orderClamp_still (c := c.change .rewind) (.inl rfl) (by simp))
  have hnot : ¬(c.fittingTag ≠ none ∧ c.fault.map FaultInfo.cause ≠ some .parted) := by
    rintro ⟨hn, hp⟩
    exact ht.elim hn hp
  simp only [Station.clearFaultTo, if_neg hnot, if_neg (Classical.not_not.mpr hh), if_neg (Classical.not_not.mpr hf), hrewind]

theorem Station.clearFaultTo_rewind_tagged (ht : c.fittingTag ≠ none)
    (hp : c.fault.map FaultInfo.cause ≠ some .parted) :
    c.clearFaultTo .rewind granted = (c, refusal .wrongState) := if_pos ⟨ht, hp⟩

theorem Station.clearFaultTo_rewind_refused (ht : c.fittingTag = none ∨ c.fault.map FaultInfo.cause = some .parted) :
    (c.holds ≠ [] → c.clearFaultTo .rewind granted = (c, refusal .held)) ∧
      (c.holds = [] → c.drive.field ≠ .opened → c.clearFaultTo .rewind granted = (c, refusal .wrongState)) := by
  have hnot : ¬(c.fittingTag ≠ none ∧ c.fault.map FaultInfo.cause ≠ some .parted) := by
    rintro ⟨hn, hp⟩
    exact ht.elim hn hp
  refine ⟨fun hh => ?_, fun hh hf => ?_⟩
  · simp only [Station.clearFaultTo, if_neg hnot, if_pos hh]
  · simp only [Station.clearFaultTo, if_neg hnot, if_neg (Classical.not_not.mpr hh), if_pos hf]

end

theorem resumeTarget_eq_none {b : Byte} (h3 : b ≠ 3) (h5 : b ≠ 5) (h7 : b ≠ 7) (h8 : b ≠ 8) : resumeTarget b = none :=
  (if_neg h3).trans ((if_neg h5).trans ((if_neg h7).trans (if_neg h8)))

/-- What the rewind of a FAULT line makes of its record: the outcomes of R54, R56 and R93. -/
theorem Station.rewindOpening_outcomes {c : Station} (hf : c.drive.field = .opened) :
    (c.drive.homeClosed = false → c.drive.payout ≠ some 0 → (c.movedSent .rewind .opened).startRewind =
      (c.movedSent .rewind .opened).started c.rewindSegment) ∧
    (c.drive.homeClosed = false → c.drive.payout = some 0 → c.settings.homeMargin ≠ 0 →
      (c.movedSent .rewind .opened).startRewind =
        ((c.movedSent .rewind .opened).started c.rewindSegment).creeping.started c.creepSegment) ∧
    (c.drive.homeClosed = false → c.drive.payout = some 0 → c.settings.homeMargin = 0 →
      (c.movedSent .rewind .opened).startRewind =
        ((c.movedSent .rewind .opened).started c.rewindSegment).enterFault .home) ∧
    (c.drive.homeClosed = true → (c.movedSent .rewind .opened).startRewind =
      ((c.movedSent .rewind .opened).spent .heave).enterStowed.latch .stateReached) := by
  have hfield : (c.movedSent .rewind .opened).drive.field = .opened :=
    Station.field_movedSent_of_field (p := .opened) .rewind hf
  have hmode : (c.movedSent .rewind .opened).drive.mode ≠ .running := c.mode_change (by decide)
  have hhome : (c.movedSent .rewind .opened).drive.homeClosed = c.drive.homeClosed := c.homeClosed_change .rewind
  have hpay : (c.movedSent .rewind .opened).drive.payout = c.drive.payout := c.payout_change .rewind
  refine ⟨fun hh hp => ?_, fun hh hp hz => ?_, fun hh hp hz => ?_, fun hh => ?_⟩
  · exact Station.startRewind_runs hfield hmode (hhome.trans hh) (by rwa [hpay])
  · exact Station.startRewind_creeps hfield hmode (hhome.trans hh) rfl (hpay.trans hp) hz
  · exact Station.startRewind_faults hfield hmode (hhome.trans hh) rfl (hpay.trans hp) hz
  · exact Station.startRewind_stows hfield hmode rfl (c.nxt_change .rewind) (hhome.trans hh)

/-- What every entry into SLACK with the clamp ordered OPEN says of the clamp (R96, R97). -/
theorem Station.clamp_movedSent_opened (c : Station) (new : LineState) :
    (c.drive.field = .opened → (c.movedSent new .opened).drive.field = .opened) ∧
      (c.drive.field = .opening → c.drive.reading ≠ .openOnly →
        (c.movedSent new .opened).drive.field = .opening ∧
          (c.movedSent new .opened).drive.deadline = c.drive.deadline) ∧
      (c.drive.field ≠ .opened → c.drive.field ≠ .opening → c.drive.reading ≠ .openOnly →
        (c.movedSent new .opened).drive.field = .opening ∧
          (c.movedSent new .opened).drive.deadline = some c.settings.travelLimit) ∧
      (c.drive.reading = .openOnly → (c.movedSent new .opened).drive.field = .opened) := by
  refine ⟨fun hf => Station.field_movedSent_of_field (p := .opened) new hf, fun hf hr => ?_, fun hf hf' hr =>
    Station.movedSent_travels (p := .opened) new hf hf' hr, fun hr =>
    Station.field_movedSent_of_reading (p := .opened) new hr⟩
  obtain ⟨hfield, hdeadline⟩ := Station.movedSent_onItsWay (p := .opened) new hf hr
  exact ⟨hfield.trans hf, hdeadline⟩

/-- Settles O24: one target at a time, each with its checks in their order. -/
theorem clearFaultMovesTheLineToItsTarget : Obligations.ClearFaultMovesTheLineToItsTarget := by
  intro i s h hs
  have takes3 := hostTakes_clearFault i h hs (target := 3) (state := .tended) rfl
  have takes5 := hostTakes_clearFault i h hs (target := 5) (state := .locked) rfl
  have takes7 := hostTakes_clearFault i h hs (target := 7) (state := .slack) rfl
  have takes8 := hostTakes_clearFault i h hs (target := 8) (state := .rewind) rfl
  refine ⟨fun hg hf ht hm => ?_, fun hg hf => ?_, fun hh => ?_, fun ht hh hf hhome hpay => ?_, fun ht hh hf => ?_,
    fun ht hp => ?_, fun ht => ⟨fun hh => ?_, fun hh hf => ?_⟩, fun hh => ?_, fun hg hf ht hm => ?_, fun hno => ?_,
    fun hno => ?_, fun target h3 h5 h7 h8 => ?_⟩
  · rw [Station.clearFaultTo_tended hg hf ht hm] at takes3
    refine (takes3.taking rfl rfl).mono fun t ⟨honly, hans, htakes⟩ => ⟨honly, hans, ?_⟩
    have hrep := htakes.reports (new := [.entered .tended]) rfl
    rw [htakes.eq_but_reports]
    exact ⟨(s.st i).movedTo_movedSent .opened .tended, ⟨rfl, rfl, rfl⟩, rfl, ⟨rfl, rfl, rfl, rfl, rfl⟩,
      ⟨rfl, rfl, rfl, rfl, rfl⟩, rfl, Station.field_movedSent_of_field (p := .opened) .tended hf, by rw [← hs]; rfl, hrep⟩
  · rw [Station.clearFaultTo_locked hg hf] at takes5
    refine (takes5.taking rfl rfl).mono fun t ⟨honly, hans, htakes⟩ => ⟨honly, hans, ?_⟩
    have hrep := htakes.reports (new := [.entered .locked]) rfl
    rw [htakes.eq_but_reports]
    exact ⟨(s.st i).movedTo_movedSent .closed .locked, ⟨rfl, rfl, rfl⟩, rfl, ⟨rfl, rfl, rfl, rfl, rfl⟩,
      ⟨rfl, rfl, rfl, rfl, rfl⟩, rfl, Station.field_movedSent_of_field (p := .closed) .locked hf, by rw [← hs]; rfl, hrep⟩
  · rw [Station.clearFaultTo_slack hh] at takes7
    refine (takes7.taking rfl rfl).mono fun t ⟨honly, hans, htakes⟩ => ⟨honly, hans, ?_⟩
    have hrep := htakes.reports (new := [.entered .slack]) rfl
    rw [htakes.eq_but_reports]
    exact ⟨(s.st i).movedTo_movedSent .opened .slack, ⟨rfl, rfl, rfl⟩, hh, rfl, rfl, ⟨rfl, rfl, rfl, rfl, rfl⟩, rfl,
      by rw [← hs]; rfl, hrep, (s.st i).clamp_movedSent_opened .slack⟩
  · rw [Station.clearFaultTo_rewind ht hh hf, (Station.rewindOpening_outcomes hf).1 hhome hpay] at takes8
    refine (takes8.taking rfl rfl).mono fun t ⟨honly, hans, htakes⟩ => ⟨honly, hans, ?_⟩
    have hrep := htakes.reports (new := [.entered .rewind]) rfl
    rw [htakes.eq_but_reports]
    exact ⟨(s.st i).movedTo_movedSent .opened .rewind, ⟨rfl, rfl, rfl⟩, ⟨rfl, rfl, rfl, rfl, rfl⟩, rfl,
      ⟨rfl, rfl, rfl, rfl, rfl⟩, by rw [← hs]; rfl, hrep⟩
  · rw [Station.clearFaultTo_rewind ht hh hf] at takes8
    obtain ⟨-, hcreeps, hfaults, hstows⟩ := Station.rewindOpening_outcomes hf
    refine ⟨fun hhome => ?_, fun hhome hpay hz => ?_, fun hhome hpay hz => ?_⟩
    · rw [hstows hhome] at takes8
      refine (takes8.taking rfl rfl).mono fun t ⟨honly, hans, htakes⟩ => ⟨honly, hans, ?_⟩
      rw [htakes.eq_but_reports]
      exact ⟨rfl, rfl, rfl, rfl, ⟨rfl, rfl, rfl, rfl, rfl⟩, rfl⟩
    · rw [hcreeps hhome hpay hz] at takes8
      refine (takes8.taking rfl rfl).mono fun t ⟨honly, hans, htakes⟩ => ⟨honly, hans, ?_⟩
      have hoverrun := ((s.st i).keepsGround_change .rewind).1.2.1
      rw [htakes.eq_but_reports]
      exact ⟨⟨rfl, rfl, rfl, rfl, rfl⟩, congrArg (fun o => some (o + (s.st i).settings.homeMargin)) hoverrun⟩
    · rw [hfaults hhome hpay hz] at takes8
      refine (takes8.taking rfl rfl).mono fun t ⟨honly, hans, htakes⟩ => ⟨honly, hans, ?_⟩
      rw [htakes.eq_but_reports]
      exact ⟨rfl, rfl, ⟨rfl, rfl, rfl, rfl, rfl⟩⟩
  · exact takes8.refusing (Station.clearFaultTo_rewind_tagged ht hp) rfl
  · exact takes8.refusing ((Station.clearFaultTo_rewind_refused ht).1 hh) rfl
  · exact takes8.refusing ((Station.clearFaultTo_rewind_refused ht).2 hh hf) rfl
  · exact takes7.refusing (Station.clearFaultTo_slack_held hh) rfl
  · exact takes3.refusing (Station.clearFaultTo_tended_sensor hg hf ht hm) rfl
  · exact takes3.refusing (Station.clearFaultTo_tended_wrongState hno) rfl
  · exact takes5.refusing (Station.clearFaultTo_locked_wrongState hno) rfl
  · exact (hostTakes_clearFault_noTarget i h hs (resumeTarget_eq_none h3 h5 h7 h8)).refusing rfl rfl

/-! ### ADOPT (R160 to R164) -/

/-- The operands of an ADOPT that names a tag, a band, both or neither. -/
theorem adoption_of_named {fitting : Option Byte} {band : Option (Half × Half)} {presence tag : Byte} {low high : Half}
    (hp : presence = (if fitting.isSome then 1 else 0) + (if band.isSome then 2 else 0))
    (ht : ∀ g, fitting = some g → tag = g ∧ tagInRange g = true)
    (hb : ∀ b, band = some b → (low, high) = b ∧ Band.valid ⟨b.1.toNat, b.2.toNat⟩ = true) :
    adoption presence tag low high =
      some ⟨fitting, band.map fun b => Band.mk b.1.toNat b.2.toNat⟩ := by
  subst hp
  cases fitting with
  | none =>
    cases band with
    | none => rfl
    | some b =>
      obtain ⟨rfl, hvalid⟩ := hb b rfl
      simp [adoption, hvalid]
  | some g =>
    obtain ⟨rfl, hrange⟩ := ht g rfl
    cases band with
    | none => simp [adoption, hrange]
    | some b =>
      obtain ⟨rfl, hvalid⟩ := hb b rfl
      simp [adoption, hrange, hvalid]

section
variable {c : Station} {a : Adoption} {tag : Option Half} {dup : Bool}

/-- The record retired by ADOPT, its clamp sent to OPEN. -/
def Station.adoptedStowed (c : Station) : Station :=
  { c.movedSent .stowed .opened with vesselTag := none, fittingTag := none, band := none }

theorem Station.adoptTo_stowed (ha : a.tag = none) (hb : a.band = none) (hh : c.drive.homeClosed = true) :
    c.adoptTo .stowed a tag dup = c.adoptedStowed.answers .ok := by
  have hsent : c.enterStowed.orderClamp .opened = c.adoptedStowed :=
    Station.orderClamp_still (.inl rfl) (by simp [Station.enterStowed])
  simp [Station.adoptTo, ha, hb, hh, hsent]

theorem Station.adoptTo_locked (ht : tag ≠ none) (hf : c.drive.field = .closed) (hd : dup = false) :
    c.adoptTo .locked a tag dup = ((c.adopted tag a).movedSent .locked .closed).answers .ok := by
  simp [Station.adoptTo, ht, hf, hd, Station.enterLockedClosing_eq]

theorem Station.adoptTo_tended (ht : tag ≠ none) (hf : c.drive.field = .opened) (hm : c.monitor.failed = false)
    (hd : dup = false) :
    c.adoptTo .tended a tag dup = ((c.adopted tag a).movedSent .tended .opened).answers .ok := by
  simp [Station.adoptTo, ht, hf, hm, hd, Station.enterTendedOpening_eq]

theorem Station.adoptTo_slack (hf : c.drive.field = .opened ∨ c.drive.field = .unknown) (hd : dup = false) :
    c.adoptTo .slack a tag dup = ((c.adopted tag a).movedSent .slack .opened).answers .ok := by
  simp [Station.adoptTo, hf, hd, Station.enterSlackOpening_eq]

end

theorem ne_none_of_isSome {α : Type} {o : Option α} (h : o.isSome = true) : o ≠ none := by
  rintro rfl
  cases h

/-- Settles O25: the operands name what they name, and each target has its own record. -/
theorem adoptTakesAHaltedLineOver : Obligations.AdoptTakesAHaltedLineOver := by
  intro i fitting band presence tag low high s h hs hp ht hb
  have hadopt : adoption presence tag low high = some ⟨fitting, band.map fun b => Band.mk b.1.toNat b.2.toNat⟩ := by
    refine adoption_of_named hp (fun g hg => ?_) fun b hband => ?_
    · obtain ⟨heq, hlow, hhigh, -⟩ := ht g hg
      exact ⟨heq, (tagInRange_iff g).mpr ⟨hlow, hhigh⟩⟩
    · obtain ⟨heq, hvalid⟩ := hb b hband
      subst heq
      exact ⟨rfl, (Band.valid_iff _).mpr hvalid⟩
  have hdup : fitting.any (s.tagTaken i) = false := by
    cases hg : fitting with
    | none => rfl
    | some g =>
      obtain ⟨-, -, -, htaken⟩ := ht g hg
      exact htaken
  refine ⟨fun hfit hband hhome => ?_, fun hg hf => ?_, fun hg hf hm => ?_, fun hf => ?_⟩
  · have takes := hostTakes_adopt i h hs (target := 0) (state := .stowed) rfl hadopt
    subst hfit hband
    rw [Station.adoptTo_stowed rfl rfl hhome] at takes
    refine (takes.taking rfl rfl).mono fun t ⟨honly, hans, htakes⟩ => ⟨honly, hans, ?_⟩
    rw [htakes.eq_but_reports]
    exact ⟨(s.st i).movedTo_movedSent .opened .stowed, rfl, rfl, rfl, ⟨rfl, rfl, rfl, rfl, rfl⟩,
      ⟨rfl, rfl, rfl, rfl, rfl⟩, rfl, by rw [← hs]; rfl⟩
  · have takes := hostTakes_adopt i h hs (target := 5) (state := .locked) rfl hadopt
    rw [Station.adoptTo_locked (ne_none_of_isSome hg) hf hdup] at takes
    refine (takes.taking rfl rfl).mono fun t ⟨honly, hans, htakes⟩ => ⟨honly, hans, ?_⟩
    rw [htakes.eq_but_reports]
    exact ⟨(s.st i).movedTo_movedSent .closed .locked, rfl, rfl, rfl, ⟨rfl, rfl, rfl, rfl, rfl⟩,
      ⟨rfl, rfl, rfl, rfl, rfl⟩, rfl, Station.field_movedSent_of_field (p := .closed) .locked hf, by rw [← hs]; rfl⟩
  · have takes := hostTakes_adopt i h hs (target := 3) (state := .tended) rfl hadopt
    rw [Station.adoptTo_tended (ne_none_of_isSome hg) hf hm hdup] at takes
    refine (takes.taking rfl rfl).mono fun t ⟨honly, hans, htakes⟩ => ⟨honly, hans, ?_⟩
    rw [htakes.eq_but_reports]
    exact ⟨(s.st i).movedTo_movedSent .opened .tended, rfl, rfl, rfl, ⟨rfl, rfl, rfl, rfl, rfl⟩,
      ⟨rfl, rfl, rfl, rfl, rfl⟩, rfl, Station.field_movedSent_of_field (p := .opened) .tended hf, by rw [← hs]; rfl⟩
  · have takes := hostTakes_adopt i h hs (target := 7) (state := .slack) rfl hadopt
    rw [Station.adoptTo_slack hf hdup] at takes
    refine (takes.taking rfl rfl).mono fun t ⟨honly, hans, htakes⟩ => ⟨honly, hans, ?_⟩
    rw [htakes.eq_but_reports]
    refine ⟨(s.st i).movedTo_movedSent .opened .slack, rfl, rfl, rfl, rfl, ⟨rfl, rfl, rfl, rfl, rfl⟩, rfl,
      fun hu hr => ?_, by rw [← hs]; rfl⟩
    exact Station.movedSent_travels (p := .opened) .slack (fun e => nomatch hu.symm.trans e)
      (fun e => nomatch hu.symm.trans e) hr

/-! ### ADOPT refused (R160 to R164) -/

theorem adoptTarget_eq_none {b : Byte} (h0 : b ≠ 0) (h3 : b ≠ 3) (h5 : b ≠ 5) (h7 : b ≠ 7) : adoptTarget b = none :=
  (if_neg h0).trans ((if_neg h5).trans ((if_neg h3).trans (if_neg h7)))

/-- What the two marks of an ADOPT name. -/
def namedBy (presence tag : Byte) (low high : Half) : Adoption :=
  ⟨if presence.getLsbD 0 then some tag else none,
    if presence.getLsbD 1 then some ⟨low.toNat, high.toNat⟩ else none⟩

theorem namedBy_tag_all (presence tag : Byte) (low high : Half) :
    (namedBy presence tag low high).tag.all tagInRange = true ↔
      (presence.getLsbD 0 = true → 1 ≤ tag.toNat ∧ tag.toNat ≤ 99) := by
  rw [← tagInRange_iff]
  unfold namedBy
  cases presence.getLsbD 0 <;> simp

theorem namedBy_band_all (presence tag : Byte) (low high : Half) :
    (namedBy presence tag low high).band.all Band.valid = true ↔
      (presence.getLsbD 1 = true → 0 < low.toNat ∧ low.toNat + 50 ≤ high.toNat ∧ high.toNat ≤ 10000) := by
  rw [show (0 < low.toNat ∧ low.toNat + 50 ≤ high.toNat ∧ high.toNat ≤ 10000) ↔ _ from
    (Band.valid_iff ⟨low.toNat, high.toNat⟩).symm]
  unfold namedBy
  cases presence.getLsbD 1 <;> simp

theorem adoption_valid {presence tag : Byte} {low high : Half} (hp : presence.toNat < 4)
    (ht : presence.getLsbD 0 = true → 1 ≤ tag.toNat ∧ tag.toNat ≤ 99)
    (hb : presence.getLsbD 1 = true → 0 < low.toNat ∧ low.toNat + 50 ≤ high.toNat ∧ high.toNat ≤ 10000) :
    adoption presence tag low high = some (namedBy presence tag low high) :=
  if_pos ⟨hp, (namedBy_tag_all _ _ _ _).mpr ht, (namedBy_band_all _ _ _ _).mpr hb⟩

theorem adoption_invalid {presence tag : Byte} {low high : Half}
    (h : 4 ≤ presence.toNat ∨ presence.getLsbD 0 = true ∧ (tag.toNat = 0 ∨ 99 < tag.toNat) ∨
      presence.getLsbD 1 = true ∧ ¬(0 < low.toNat ∧ low.toNat + 50 ≤ high.toNat ∧ high.toNat ≤ 10000)) :
    adoption presence tag low high = none := by
  refine if_neg ?_
  rintro ⟨hp, ht, hb⟩
  rcases h with h | ⟨h0, h⟩ | ⟨h1, h⟩
  · omega
  · have := (namedBy_tag_all presence tag low high).mp ht h0
    omega
  · exact h ((namedBy_band_all presence tag low high).mp hb h1)

/-- Marks other than none name something. -/
theorem namedBy_ne {presence : Byte} (hp : presence.toNat < 4) (hne : presence ≠ 0) (tag : Byte) (low high : Half) :
    (namedBy presence tag low high).tag ≠ none ∨ (namedBy presence tag low high).band ≠ none := by
  have hcases : presence = 1 ∨ presence = 2 ∨ presence = 3 := by bv_omega
  rcases hcases with rfl | rfl | rfl
  · exact .inl nofun
  · exact .inr nofun
  · exact .inl nofun

section
variable {c : Station} {a : Adoption} {tag : Option Half} {dup : Bool}

theorem Station.adoptTo_stowed_badValue (h : a.tag ≠ none ∨ a.band ≠ none) :
    c.adoptTo .stowed a tag dup = (c, refusal .badValue) := if_pos h

theorem Station.adoptTo_stowed_wrongState (h : a.tag = none) (h' : a.band = none) (hh : c.drive.homeClosed = false) :
    c.adoptTo .stowed a tag dup = (c, refusal .wrongState) := by
  simp [Station.adoptTo, h, h', hh]

theorem Station.adoptTo_locked_wrongState (h : tag = none ∨ c.drive.field ≠ .closed) :
    c.adoptTo .locked a tag dup = (c, refusal .wrongState) := if_pos h

theorem Station.adoptTo_locked_duplicate (ht : tag ≠ none) (hf : c.drive.field = .closed) (hd : dup = true) :
    c.adoptTo .locked a tag dup = (c, refusal .duplicateTag) := by
  simp [Station.adoptTo, ht, hf, hd]

theorem Station.adoptTo_tended_wrongState (h : tag = none ∨ c.drive.field ≠ .opened) :
    c.adoptTo .tended a tag dup = (c, refusal .wrongState) := if_pos h

theorem Station.adoptTo_tended_sensor (ht : tag ≠ none) (hf : c.drive.field = .opened) (hm : c.monitor.failed = true) :
    c.adoptTo .tended a tag dup = (c, refusal .sensor) := by
  simp [Station.adoptTo, ht, hf, hm]

theorem Station.adoptTo_tended_duplicate (ht : tag ≠ none) (hf : c.drive.field = .opened)
    (hm : c.monitor.failed = false) (hd : dup = true) :
    c.adoptTo .tended a tag dup = (c, refusal .duplicateTag) := by
  simp [Station.adoptTo, ht, hf, hm, hd]

theorem Station.adoptTo_slack_wrongState (hf : c.drive.field ≠ .opened) (hf' : c.drive.field ≠ .unknown) :
    c.adoptTo .slack a tag dup = (c, refusal .wrongState) := if_pos (not_or.mpr ⟨hf, hf'⟩)

theorem Station.adoptTo_slack_duplicate (hf : c.drive.field = .opened ∨ c.drive.field = .unknown) (hd : dup = true) :
    c.adoptTo .slack a tag dup = (c, refusal .duplicateTag) := by
  simp [Station.adoptTo, hf, hd]

end

theorem noTag_of_isSome_false {α : Type} {o : Option α} {p : Prop} (h : o.isSome = false ∨ p) : o = none ∨ p :=
  h.imp_left fun hn => by simpa using hn

/-- Settles O26: the value checks first, then the target's own, the duplicate tag last. -/
theorem anAdoptionIsRefusedByTheFirstCheckThatFails : Obligations.AnAdoptionIsRefusedByTheFirstCheckThatFails := by
  intro i target presence tag low high s h hs
  refine ⟨⟨fun h0 h3 h5 h7 => ?_, fun hbad => ?_⟩, fun hp ht hb => ?_⟩
  · exact (hostTakes_adopt_badValue i h hs (.inl (adoptTarget_eq_none h0 h3 h5 h7))).refusing rfl rfl
  · exact (hostTakes_adopt_badValue i h hs (.inr (adoption_invalid hbad))).refusing rfl rfl
  · have hadopt := adoption_valid hp ht hb
    have takes0 := hostTakes_adopt i h hs (target := 0) (state := .stowed) rfl hadopt
    have takes3 := hostTakes_adopt i h hs (target := 3) (state := .tended) rfl hadopt
    have takes5 := hostTakes_adopt i h hs (target := 5) (state := .locked) rfl hadopt
    have takes7 := hostTakes_adopt i h hs (target := 7) (state := .slack) rfl hadopt
    refine ⟨fun hne => ?_, fun hz hh => ?_, fun hno => ?_, fun hno => ?_, fun hg hf hm => ?_, fun hf hf' => ?_,
      fun h0 htaken => ?_⟩
    · exact takes0.refusing (Station.adoptTo_stowed_badValue (namedBy_ne hp hne tag low high)) rfl
    · subst hz
      exact takes0.refusing (Station.adoptTo_stowed_wrongState rfl rfl hh) rfl
    · exact takes5.refusing (Station.adoptTo_locked_wrongState (noTag_of_isSome_false hno)) rfl
    · exact takes3.refusing (Station.adoptTo_tended_wrongState (noTag_of_isSome_false hno)) rfl
    · exact takes3.refusing (Station.adoptTo_tended_sensor (ne_none_of_isSome hg) hf hm) rfl
    · exact takes7.refusing (Station.adoptTo_slack_wrongState hf hf') rfl
    · have hdup : (namedBy presence tag low high).tag.any (s.tagTaken i) = true := by
        simp [namedBy, h0, htaken]
      refine ⟨fun hg hf => ?_, fun hg hf hm => ?_, fun hf => ?_⟩
      · exact takes5.refusing (Station.adoptTo_locked_duplicate (ne_none_of_isSome hg) hf hdup) rfl
      · exact takes3.refusing (Station.adoptTo_tended_duplicate (ne_none_of_isSome hg) hf hm hdup) rfl
      · exact takes7.refusing (Station.adoptTo_slack_duplicate hf hdup) rfl

/-! ### Refusals of the line requests -/

section
variable {c : Station} {target : Nat}

theorem Station.payoutFromStowed_badValue (h : target = 0 ∨ 25000 < target) (x : Option FaceState) :
    c.payoutFromStowed x target = (c, refusal .badValue) := by
  refine if_pos ?_
  simp only [Config.payoutMax]
  omega

variable (h1 : 1 ≤ target) (hmax : target ≤ 25000)
include h1 hmax

/-- With the target in range the face decides first. -/
theorem Station.payoutFromStowed_inRange : ¬(target < 1 ∨ Config.payoutMax < target) := by
  simp only [Config.payoutMax]
  omega

theorem Station.payoutFromStowed_notServed {x : Option FaceState} (h : ∀ y, x = some y → y.grant.paysOut = false) :
    c.payoutFromStowed x target = (c, refusal .wrongState) := by
  unfold Station.payoutFromStowed
  rw [if_neg (Station.payoutFromStowed_inRange h1 hmax)]
  cases x with
  | none => rfl
  | some y => exact if_pos (h y rfl)

variable {x : FaceState} (hg : x.grant.paysOut = true)
include hg

theorem Station.payoutFromStowed_emergency (he : x.erActive = true) :
    c.payoutFromStowed (some x) target = (c, refusal .emergency) := by
  rw [Station.payoutFromStowed, if_neg (Station.payoutFromStowed_inRange h1 hmax)]
  simp [hg, he]

theorem Station.payoutFromStowed_sensor (he : x.erActive = false) (hm : c.monitor.failed = true) :
    c.payoutFromStowed (some x) target = (c, refusal .sensor) := by
  rw [Station.payoutFromStowed, if_neg (Station.payoutFromStowed_inRange h1 hmax)]
  simp [hg, he, hm]

theorem Station.payoutFromStowed_wrongState (he : x.erActive = false) (hm : c.monitor.failed = false)
    (h : c.drive.homeClosed = false ∨ c.drive.field ≠ .opened) :
    c.payoutFromStowed (some x) target = (c, refusal .wrongState) := by
  rw [Station.payoutFromStowed, if_neg (Station.payoutFromStowed_inRange h1 hmax)]
  simp [hg, he, hm, h]

end

section
variable {c : Station}

theorem Station.takeUp_wrongState (h : c.state ≠ .payout ∨ c.fittingTag = none) :
    c.takeUp = (c, refusal .wrongState) := if_pos h

theorem Station.takeUp_sensor (hs : c.state = .payout) (ht : c.fittingTag ≠ none) (hm : c.monitor.failed = true) :
    c.takeUp = (c, refusal .sensor) := by
  simp [Station.takeUp, hs, ht, hm]

theorem Station.release_inPlan (hs : c.state = .tended ∨ c.state = .locked ∨ c.state = .payout) :
    c.release true = (c, refusal .inPlan) := by
  rcases hs with hs | hs | hs <;> simp [Station.release, hs]

theorem Station.release_held (hs : c.state = .tended ∨ c.state = .locked ∨ c.state = .payout) (hh : c.holds ≠ []) :
    c.release false = (c, refusal .held) := by
  rcases hs with hs | hs | hs <;> simp [Station.release, hs, hh]

theorem Station.release_untagged (hs : c.state = .payout) (hh : c.holds = []) (ht : c.fittingTag = none) :
    c.release false = (c, refusal .wrongState) := by
  simp [Station.release, hs, hh, ht]

theorem Station.cancel_held (hs : c.state = .payout) (ht : c.fittingTag = none) (hh : c.holds ≠ []) :
    c.cancel = (c, refusal .held) := by
  simp [Station.cancel, hs, ht, hh]

end

/-- Settles O27: each request's own lemma for the state, and for each later check. -/
theorem lineRequestsAreRefusedInTheirOrder : Obligations.LineRequestsAreRefusedInTheirOrder := by
  intro i target b p g low high s h
  refine ⟨fun hs hs' => ?_, fun hs => ⟨fun hbad => ?_, fun h1 hmax => ⟨fun hface => ?_, fun f hf hm =>
    ⟨fun he => ?_, fun he hfail => ?_, fun he hfail hno => ?_⟩⟩⟩, fun hno => ?_, fun hs ht hfail => ?_, fun hs => ?_,
    fun hs hs' => ?_, fun hs hs' hs'' => ?_, fun hs => ⟨fun hplan => ?_, fun hplan hh => ?_⟩,
    fun hs hplan hh ht => ?_, fun hno => ?_, fun hs ht hh => ?_, fun hs => ?_, fun hs => ?_, fun hs => ?_⟩
  · exact (hostTakes_payout_other i h hs hs' target).refusing rfl rfl
  · exact (hostTakes_payout_stowed i h hs target).refusing (Station.payoutFromStowed_badValue hbad _) rfl
  · refine (hostTakes_payout_stowed i h hs target).refusing
      (Station.payoutFromStowed_notServed h1 hmax fun y hy => ?_) rfl
    obtain ⟨f, hf, rfl⟩ := Option.map_eq_some_iff.mp hy
    exact Bool.eq_false_iff.mpr fun hpays => hface f hf ((GrantState.paysOut_iff _).mp hpays)
  · have takes := hostTakes_payout_stowed i h hs target
    rw [hf] at takes
    exact takes.refusing (Station.payoutFromStowed_emergency h1 hmax ((GrantState.paysOut_iff _).mpr hm) he) rfl
  · have takes := hostTakes_payout_stowed i h hs target
    rw [hf] at takes
    exact takes.refusing (Station.payoutFromStowed_sensor h1 hmax ((GrantState.paysOut_iff _).mpr hm) he hfail) rfl
  · have takes := hostTakes_payout_stowed i h hs target
    rw [hf] at takes
    exact takes.refusing
      (Station.payoutFromStowed_wrongState h1 hmax ((GrantState.paysOut_iff _).mpr hm) he hfail hno) rfl
  · exact (hostTakes_takeUp i h).refusing (Station.takeUp_wrongState hno) rfl
  · exact (hostTakes_takeUp i h).refusing (Station.takeUp_sensor hs ht hfail) rfl
  · exact (hostTakes_lock i h).refusing (if_neg hs) rfl
  · exact (hostTakes_unlock i h).refusing (if_neg (not_or.mpr ⟨hs, hs'⟩)) rfl
  · refine (hostTakes_release i h).refusing (if_pos ?_) rfl
    rintro (e | e | e)
    · exact hs e
    · exact hs' e
    · exact hs'' e
  · have takes := hostTakes_release i h
    rw [hplan] at takes
    exact takes.refusing (Station.release_inPlan hs) rfl
  · have takes := hostTakes_release i h
    rw [hplan] at takes
    exact takes.refusing (Station.release_held hs hh) rfl
  · have takes := hostTakes_release i h
    rw [hplan] at takes
    exact takes.refusing (Station.release_untagged hs hh ht) rfl
  · exact (hostTakes_cancel i h).refusing (if_pos hno) rfl
  · exact (hostTakes_cancel i h).refusing (Station.cancel_held hs ht hh) rfl
  · exact (hostTakes_markClear i h).refusing (if_neg hs) rfl
  · exact (hostTakes_clearFault_other i h hs b).refusing rfl rfl
  · exact (hostTakes_adopt_other i h hs b p g low high).refusing rfl rfl

/-! ### A ship's TAKE_UP and MARK_CLEAR (R21, R30, R31, R52) -/

/-- Settles O42: the ship's requests come to the same records as the host's, with the SHIP_CHANGE latch. -/
theorem aShipTakesUpAndMarksClear : Obligations.AShipTakesUpAndMarksClear := by
  intro f tag selector i s h hsel
  refine ⟨fun hserved => ⟨fun hs ht => ⟨fun hm hf hh hp b hb ha => ?_, fun hm => ?_⟩, fun hno => ?_⟩, fun hs hf => ?_,
    fun hs hf hh hp => ?_, fun hs => ?_⟩
  · have takes := shipTakes_takeUp h hsel hserved
    obtain ⟨hfirst, -, -⟩ := Station.tookUp_outcomes hb hf hh hp
    rw [Station.takeUp_taken hs ht hm, hfirst ha] at takes
    refine (takes.taking rfl).mono fun t ⟨honly, hans, htakes⟩ => ⟨honly, hans, ?_⟩
    rw [htakes.eq_but_reports, ← Station.firstTakeUp_eq hb, ← Station.secondTakeUp_eq hb]
    exact ⟨(s.st i).movedTo_change .heave, ⟨rfl, rfl, rfl⟩, ((s.st i).keepsGround_change .heave).2.1, rfl,
      ⟨rfl, rfl, rfl, rfl, rfl⟩, rfl, by rw [← hs]; rfl⟩
  · exact (shipTakes_takeUp h hsel hserved).refusing (Station.takeUp_sensor hs ht hm) rfl
  · exact (shipTakes_takeUp h hsel hserved).refusing (Station.takeUp_wrongState hno) rfl
  · refine ((shipTakes_markClear h hsel).taking (Station.markClear_remembered hs hf)).mono ?_
    exact fun t ⟨honly, hans, htakes⟩ => ⟨honly, hans, htakes.eq_of_silent rfl⟩
  · have takes := shipTakes_markClear h hsel
    obtain ⟨hruns, -, -, -⟩ := Station.enterRewind_outcomes hf
    rw [Station.markClear_opened hs hf, hruns hh hp] at takes
    refine (takes.taking rfl).mono fun t ⟨honly, hans, htakes⟩ => ⟨honly, hans, ?_⟩
    have hrep := htakes.reports (new := [.entered .rewind]) rfl
    rw [htakes.eq_but_reports]
    exact ⟨(s.st i).movedTo_change .rewind, ⟨rfl, rfl, rfl⟩, ((s.st i).keepsGround_change .rewind).2.1,
      ⟨rfl, rfl, rfl, rfl, rfl⟩, ⟨rfl, rfl, rfl, rfl, rfl⟩, by rw [← hs]; rfl, hrep⟩
  · exact (shipTakes_markClear h hsel).refusing (if_neg hs) rfl

end Sys2Proof.Machine
end

section
/-! PROOF. The events of a station: a release claim, the reports of its tension channel, its home switch, its segments and
its clamp (chapters 3, 4 and 7). -/

namespace Sys2Proof.Machine

/-- The record with a report taken from its channel, `rest` left behind. -/
def Station.withReports (c : Station) (rest : List MonitorReport) : Station :=
  { c with monitor := { c.monitor with reports := rest } }

theorem eventTakes_report {c : Instr} {s : State} {i : StationId} (h : s.inReset = false) {p : MonitorReport → Bool}
    {r : MonitorReport} {rest : List MonitorReport} (hr : (s.st i).monitor.reports = r :: rest) (hp : p r = true)
    (he : exec c s = stationEvent i (fun c => c.takeReport p) s) :
    EventTakes c s i (((s.st i).withReports rest).takeMonitorReport r) := by
  rw [show ((s.st i).withReports rest).takeMonitorReport r = (s.st i).takeReport p from
    (Station.takeReport_front hr hp).symm]
  exact eventTakes_of_stationEvent h he

/-- An event that sends the line to FAULT from a record with the same reports. -/
theorem EventTakes.faulting {c : Instr} {s : State} {i : StationId} {x : Station} {cause : FaultCause}
    (h : EventTakes c s i (x.enterFault cause)) (hx : x.toSequencer = (s.st i).toSequencer) :
    Completes c s fun t => s.OnlyStation t i ∧ x.Faulted (t.st i) cause ∧ s.Reports t i [.entered .fault] := by
  refine h.taking.mono fun t ⟨honly, htakes⟩ => ⟨honly, ?_, htakes.reports ?_⟩
  · rw [htakes]
    exact x.faulted_enterFault cause
  · rw [← hx]
    rfl

/-! ### A release claim (R144) -/

/-- The record whose claim has been taken. -/
def Station.claimTaken (c : Station) : Station := { c with releaseClaims := c.releaseClaims - 1 }

theorem eventTakes_releaseClaim {s : State} {i : StationId} (h : s.inReset = false) (hc : 0 < (s.st i).releaseClaims) :
    EventTakes (.releaseClaim i) s i (s.st i).claimTaken.takeRelease := by
  have takes : EventTakes (.releaseClaim i) s i
      (if (s.st i).releaseClaims = 0 then s.st i else (s.st i).claimTaken.takeRelease) :=
    eventTakes_of_stationEvent (g := fun c => if c.releaseClaims = 0 then c else c.claimTaken.takeRelease) h rfl
  rwa [if_neg (Nat.ne_of_gt hc)] at takes

theorem Station.takeRelease_stays {c : Station} (h : c.state = .slack ∨ c.state = .rewind ∨ c.state = .stowed) :
    c.takeRelease = c := by
  rcases h with h | h | h <;> simp [Station.takeRelease, h]

theorem Station.takeRelease_goes {c : Station} (h : c.state ≠ .slack) (h' : c.state ≠ .rewind) (h'' : c.state ≠ .stowed) :
    c.takeRelease = ({ c with holds := [] }).movedSent .slack .opened := by
  rw [← Station.enterSlackOpening_eq]
  unfold Station.takeRelease
  split
  · next e => exact absurd e h
  · next e => exact absurd e h'
  · next e => exact absurd e h''
  all_goals rfl

/-- Settles O38: the claim is one entry into SLACK, or leaves the line. -/
theorem aReleaseClaimLetsTheLineGo : Obligations.AReleaseClaimLetsTheLineGo := by
  intro i s h hc
  have takes := eventTakes_releaseClaim h hc
  refine ⟨fun hs => ?_, fun hs hs' hs'' => ?_⟩
  · rw [Station.takeRelease_stays (c := (s.st i).claimTaken) hs] at takes
    exact takes.silent rfl
  · rw [Station.takeRelease_goes (c := (s.st i).claimTaken) hs hs' hs''] at takes
    refine takes.taking.mono fun t ⟨honly, htakes⟩ => ⟨honly, ?_⟩
    have hrep := htakes.reports (new := [.entered .slack]) rfl
    obtain ⟨hopened, hopening, htravels, -⟩ :=
      ({ (s.st i).claimTaken with holds := [] } : Station).clamp_movedSent_opened .slack
    rw [htakes.eq_but_reports]
    refine ⟨rfl, rfl, ⟨rfl, rfl, rfl, rfl, rfl⟩, rfl, rfl, rfl, rfl, ⟨rfl, rfl, rfl⟩, rfl, rfl, rfl, rfl, rfl, hrep,
      rfl, hopened, hopening, fun hf hr => ?_⟩
    rcases hf with hf | hf | hf <;>
      exact htravels (fun e => nomatch hf.symm.trans e) (fun e => nomatch hf.symm.trans e) hr

/-! ### The reports of a tension channel (R41, R69, R71, R77) -/

theorem LineState.bandCompared_iff (state : LineState) : state.bandCompared = true ↔ state = .tended ∨ state = .locked := by
  cases state <;> simp [LineState.bandCompared]

section
variable {c : Station}

theorem Station.takeMonitorReport_failed (h : c.state.needsSensor = true) :
    c.takeMonitorReport .sensorFailed = c.enterFault .sensor := if_pos h

theorem Station.takeMonitorReport_failed_elsewhere (h : c.state.needsSensor = false) :
    c.takeMonitorReport .sensorFailed = { c with monitor := { c.monitor with clearDwell := 0 } } :=
  if_neg (by simp [h])

theorem Station.takeMonitorReport_parted (h : c.state = .tended ∨ c.state = .locked) :
    c.takeMonitorReport .parted = c.enterFault .parted := if_pos ((LineState.bandCompared_iff _).mpr h)

theorem Station.takeMonitorReport_parted_elsewhere (h : c.state ≠ .tended) (h' : c.state ≠ .locked) :
    c.takeMonitorReport .parted = c := if_neg fun e => ((LineState.bandCompared_iff _).mp e).elim h h'

theorem Station.takeMonitorReport_drops
    (h : c.state = .locking ∨ (c.state = .locked ∧ c.settings.hardLock ≠ 1)) :
    c.takeMonitorReport .lockTrip = (c.movedSent .tended .opened).latch .lockDropped := by
  rw [← Station.enterTendedOpening_eq]
  rcases h with h | ⟨h, hh⟩
  · simp [Station.takeMonitorReport, Station.takeLockTrip, h]
  · simp [Station.takeMonitorReport, Station.takeLockTrip, h, hh]

theorem Station.takeMonitorReport_hardLock (h : c.state = .locked) (hh : c.settings.hardLock = 1) :
    c.takeMonitorReport .lockTrip = c.enterFault .lockTrip := by
  simp [Station.takeMonitorReport, Station.takeLockTrip, h, hh]

theorem Station.takeMonitorReport_trip_elsewhere (h : c.state ≠ .locking) (h' : c.state ≠ .locked) :
    c.takeMonitorReport .lockTrip = c := by
  unfold Station.takeMonitorReport Station.takeLockTrip
  dsimp only
  split
  · next e => exact absurd e h
  · next e => exact absurd e h'
  · rfl

end

/-- Settles O45: the report at the front is taken alone, by the state it finds. -/
theorem channelReportsActByTheStateTheyFind : Obligations.ChannelReportsActByTheStateTheyFind := by
  intro i rest s c hc h
  obtain rfl : c = (s.st i).withReports rest := hc
  refine ⟨fun hr => ?_, fun hr => ?_, fun hr => ?_, fun hr => ?_⟩
  · have takes := eventTakes_report (c := .sensorFailed i) h hr rfl rfl
    refine ⟨fun hs => ?_, fun hs => ?_⟩
    · rw [Station.takeMonitorReport_failed (c := (s.st i).withReports rest) hs] at takes
      exact takes.faulting rfl
    · rw [Station.takeMonitorReport_failed_elsewhere (c := (s.st i).withReports rest) hs] at takes
      exact takes.silent rfl
  · exact (eventTakes_report (c := .sensorRecovered i) h hr rfl rfl).silent rfl
  · have takes := eventTakes_report (c := .partedLine i) h hr rfl rfl
    refine ⟨fun hs => ?_, fun hs hs' => ?_⟩
    · rw [Station.takeMonitorReport_parted (c := (s.st i).withReports rest) hs] at takes
      exact takes.faulting rfl
    · rw [Station.takeMonitorReport_parted_elsewhere (c := (s.st i).withReports rest) hs hs'] at takes
      exact takes.silent rfl
  · have takes := eventTakes_report (c := .lockTrip i) h hr rfl rfl
    refine ⟨fun hs => ?_, fun hs hh => ?_, fun hs hs' => ?_⟩
    · rw [Station.takeMonitorReport_drops (c := (s.st i).withReports rest) hs] at takes
      refine takes.taking.mono fun t ⟨honly, htakes⟩ => ⟨honly, ?_⟩
      have hrep := htakes.reports (new := [.entered .tended]) rfl
      rw [htakes.eq_but_reports]
      refine ⟨Station.movedTo_movedSent _ .opened .tended, ⟨rfl, rfl, rfl⟩, rfl, ⟨rfl, rfl, rfl, rfl, rfl⟩,
        ⟨rfl, rfl, rfl, rfl, rfl⟩, rfl, rfl, hrep, fun hf hf' hread => ?_⟩
      exact Station.movedSent_travels (p := .opened) .tended hf hf' hread
    · rw [Station.takeMonitorReport_hardLock (c := (s.st i).withReports rest) hs hh] at takes
      exact takes.faulting rfl
    · rw [Station.takeMonitorReport_trip_elsewhere (c := (s.st i).withReports rest) hs hs'] at takes
      exact takes.silent rfl

/-! ### Tending corrections, band dwells and auto-clears (R53, R73, R75) -/

section
variable {c : Station} {g : Segment}

theorem Station.write_running (hf : c.drive.field = .opened) (hm : c.drive.mode = .running) :
    c.write g = { c with drive := { c.drive with nxt := some g } } := by
  simp only [Station.write, if_pos hm, Drive.place_open_running hf hm]

/-- A segment written while the clamp is not OPEN goes nowhere. -/
theorem Station.write_notOpen (hf : c.drive.field ≠ .opened) (hc : c.drive.cur = none) : c.write g = c := by
  simp only [Station.write, Drive.place_not_open hf]
  split
  · rfl
  · exact Station.settleEnds_of_empty hc

/-- The home switch and an end of a segment find nothing to do in TENDED. -/
theorem Station.takeConditionEnd_tended (hs : c.state = .tended) : c.takeConditionEnd g = c := by
  simp [Station.takeConditionEnd, hs]

theorem Station.takeHomeClosed_tended (hs : c.state = .tended) : c.takeHomeClosed = c := by
  simp [Station.takeHomeClosed, hs]

/-- A correction that ends at once, by its end value or by the home switch. -/
theorem Station.write_correction_ends (hs : c.state = .tended) (hf : c.drive.field = .opened)
    (hm : c.drive.mode ≠ .running) (hn : c.drive.nxt = none) (he : g.endCondition ≠ .homeClosed)
    (h : c.met g.endCondition = true ∨ (g.kind = .heave ∧ c.drive.homeClosed = true)) :
    c.write g = c.spent g.kind := by
  by_cases hhome : g.kind = .heave ∧ c.drive.homeClosed = true
  · obtain ⟨hk, hh⟩ := hhome
    rw [Station.write_homeLimit hf hm hk hh he, Station.takeHomeClosed_tended (c := c.spent .heave) hs,
      Station.takeHomeClosed_tended (c := c.spent .heave) hs, hk]
  · have hopen : g.kind = .heave → c.drive.homeClosed = false := fun hk => by
      refine Classical.byContradiction fun hh => ?_
      exact hhome ⟨hk, by simpa using hh⟩
    rw [Station.write_met hf hm hn hopen (h.resolve_right hhome)]
    exact Station.takeConditionEnd_tended (c := c.spent g.kind) hs

theorem Station.takeMonitorReport_correction (hs : c.state = .tended) (side : BandSide) :
    c.takeMonitorReport (.correction side) = c.write (c.correctionSegment side) := if_pos hs

theorem Station.takeMonitorReport_correction_elsewhere (hs : c.state ≠ .tended) (side : BandSide) :
    c.takeMonitorReport (.correction side) = c := if_neg hs

end

theorem Station.correctionSegment_below {c : Station} {b : Band} (hb : c.band = some b) :
    c.correctionSegment .below =
      ⟨.heave, c.settings.tendDuty, some c.settings.tendTime, .tensionGe b.midpoint, false⟩ := by
  simp [Station.correctionSegment, Station.bandOr, hb]

theorem Station.correctionSegment_above {c : Station} {b : Band} (hb : c.band = some b) :
    c.correctionSegment .above =
      ⟨.render, c.settings.tendDuty, some c.settings.tendTime, .tensionLe b.midpoint, false⟩ := by
  simp [Station.correctionSegment, Station.bandOr, hb]

theorem Station.supervised_correctionSegment (c : Station) (side : BandSide) :
    (c.correctionSegment side).supervised = false := by
  cases side <;> rfl

theorem Station.kind_correctionSegment (c : Station) (side : BandSide) :
    (c.correctionSegment side).kind = .heave ↔ side = .below := by
  cases side <;> simp [Station.correctionSegment]

theorem Station.endCondition_correctionSegment (c : Station) (side : BandSide) :
    (c.correctionSegment side).endCondition ≠ .homeClosed := by
  cases side <;> simp [Station.correctionSegment]

theorem eventTakes_autoClear {s : State} {i : StationId} (h : s.inReset = false) :
    EventTakes (.autoClear i) s i (s.st i).takeAutoClear := eventTakes_of_stationEvent h rfl

/-- The record whose auto-clear has been taken. -/
def Station.autoCleared (c : Station) : Station := { c with monitor := { c.monitor with clearDue := false } }

theorem Station.takeAutoClear_taken {c : Station} (hd : c.monitor.clearDue = true) (hs : c.state = .slack) :
    c.takeAutoClear = c.autoCleared.takeClear := if_pos ⟨hd, hs⟩

/-- Settles O46: a correction is one segment written, a dwell one latch, an auto-clear one clear. -/
theorem correctionsDwellsAndAutoClearsAreTaken : Obligations.CorrectionsDwellsAndAutoClearsAreTaken := by
  intro i side rest s c hc h
  obtain rfl : c = (s.st i).withReports rest := hc
  refine ⟨fun hr => ?_, fun hd => ?_, fun hd => ?_, fun hd => ?_, fun hd => ?_, fun hd hs => ⟨fun hf => ?_,
    fun hf hh hp => ?_⟩, fun hno => ?_⟩
  · have takes := eventTakes_report (c := .tendingCorrection i) h hr rfl rfl
    refine ⟨fun b hb hs hf g hg => ?_, fun hno => ?_⟩
    · rw [Station.takeMonitorReport_correction (c := (s.st i).withReports rest) hs] at takes
      obtain rfl : g = ((s.st i).withReports rest).correctionSegment side := by
        cases side with
        | below => exact hg.trans (Station.correctionSegment_below (c := (s.st i).withReports rest) hb).symm
        | above => exact hg.trans (Station.correctionSegment_above (c := (s.st i).withReports rest) hb).symm
      refine ⟨fun hm => ?_, fun hm hn hmet hhome => ?_, fun hm hn hends => ?_⟩
      · rw [Station.write_running (c := (s.st i).withReports rest) hf hm] at takes
        exact takes.silent rfl
      · rw [Station.write_runs (c := (s.st i).withReports rest) hf hm ⟨fun hk => hhome ((Station.kind_correctionSegment _ side).mp hk), hmet⟩] at takes
        refine (takes.silent rfl).mono fun t ⟨honly, ht⟩ => ⟨honly, ?_⟩
        rw [ht]
        refine ⟨⟨rfl, rfl, rfl, rfl, ?_⟩, hn, rfl, ⟨rfl, rfl, rfl, rfl, rfl, rfl, rfl, rfl⟩, ⟨rfl, rfl, rfl⟩⟩
        exact if_neg (by simp [Station.supervised_correctionSegment])
      · rw [Station.write_correction_ends (c := (s.st i).withReports rest) hs hf hm hn (Station.endCondition_correctionSegment _ side)
          (hends.imp_right fun ⟨hside, hhome⟩ => ⟨(Station.kind_correctionSegment _ side).mpr hside, hhome⟩)] at takes
        refine (takes.silent rfl).mono fun t ⟨honly, ht⟩ => ⟨honly, ?_⟩
        rw [ht]
        exact ⟨⟨rfl, rfl, rfl, rfl, rfl⟩, rfl, ⟨rfl, rfl, rfl, rfl, rfl, rfl, rfl, rfl⟩, ⟨rfl, rfl, rfl⟩⟩
    · by_cases hs : (s.st i).state = .tended
      · obtain ⟨hf, hcur⟩ := hno.resolve_left (Classical.not_not.mpr hs)
        rw [Station.takeMonitorReport_correction (c := (s.st i).withReports rest) hs, Station.write_notOpen (c := (s.st i).withReports rest) hf hcur] at takes
        exact takes.silent rfl
      · rw [Station.takeMonitorReport_correction_elsewhere (c := (s.st i).withReports rest) hs] at takes
        exact takes.silent rfl
  · have takes : EventTakes (.bandDwell i .below) s i ((s.st i).takeBandDwell .below) :=
      eventTakes_of_stationEvent h rfl
    rw [show (s.st i).takeBandDwell .below = _ from if_pos hd] at takes
    exact takes.silent rfl
  · have takes : EventTakes (.bandDwell i .above) s i ((s.st i).takeBandDwell .above) :=
      eventTakes_of_stationEvent h rfl
    rw [show (s.st i).takeBandDwell .above = _ from if_pos hd] at takes
    exact takes.silent rfl
  · have takes : EventTakes (.bandDwell i .below) s i ((s.st i).takeBandDwell .below) :=
      eventTakes_of_stationEvent h rfl
    rw [show (s.st i).takeBandDwell .below = s.st i from if_neg (by simp [hd])] at takes
    exact takes.keeping
  · have takes : EventTakes (.bandDwell i .above) s i ((s.st i).takeBandDwell .above) :=
      eventTakes_of_stationEvent h rfl
    rw [show (s.st i).takeBandDwell .above = s.st i from if_neg (by simp [hd])] at takes
    exact takes.keeping
  · have takes := eventTakes_autoClear (i := i) h
    rw [Station.takeAutoClear_taken hd hs, show (s.st i).autoCleared.takeClear = _ from if_neg hf] at takes
    exact takes.silent rfl
  · have takes := eventTakes_autoClear (i := i) h
    obtain ⟨hruns, -⟩ := Station.enterRewind_outcomes (c := (s.st i).autoCleared) hf
    rw [Station.takeAutoClear_taken hd hs, show (s.st i).autoCleared.takeClear = _ from if_pos hf, hruns hh hp] at takes
    refine takes.taking.mono fun t ⟨honly, htakes⟩ => ⟨honly, ?_⟩
    have hrep := htakes.reports (new := [.entered .rewind]) rfl
    rw [htakes.eq_but_reports]
    exact ⟨(s.st i).movedTo_change .rewind, ⟨rfl, rfl, rfl⟩, ((s.st i).keepsGround_change .rewind).2.1,
      ⟨rfl, rfl, rfl, rfl, rfl⟩, ⟨rfl, rfl, rfl, rfl, rfl⟩, by rw [← hs]; rfl, hrep⟩
  · have takes := eventTakes_autoClear (i := i) h
    rw [show (s.st i).takeAutoClear = s.st i from if_neg fun ⟨hd, hs⟩ => by
      rcases hno with e | e
      · rw [e] at hd
        cases hd
      · exact e hs] at takes
    exact takes.keeping

end Sys2Proof.Machine
end

section
/-! PROOF. The home switch, the ends of a segment, the clamp and its switches (chapter 4), and the ease limit. -/

namespace Sys2Proof.Machine

/-! ### A home closing (R34, R55, R93) -/

/-- The record that a closing of its home switch finds: referenced at 0.00 m. -/
def Station.referenced (c : Station) : Station :=
  { c with drive := { c.drive with homeClosed := true, payout := some 0, overrun := 0 } }

section
variable {c : Station}

theorem Station.homeCloses_opened (h : c.drive.homeClosed = false) :
    c.homeCloses = c.referenced.endAtHome.takeHomeClosed := if_neg (by simp [h])

theorem Station.homeCloses_closed (h : c.drive.homeClosed = true) : c.homeCloses = c := if_pos h

/-- A heave segment with another end condition ends by home limit. -/
theorem Station.endAtHome_limit {g : Segment} (hc : c.drive.cur = some g) (hk : g.kind = .heave)
    (hh : c.drive.homeClosed = true) (he : g.endCondition ≠ .homeClosed) :
    c.endAtHome = ({ c with drive := c.drive.stop }).takeHomeClosed.takeHomeClosed := by
  simp only [Station.endAtHome, hc, if_pos hk]
  exact Station.settleEnds_homeLimit hc hk hh he

/-- A render segment goes on where the payout 0.00 m does not end it. -/
theorem Station.endAtHome_render {g : Segment} (hc : c.drive.cur = some g) (hk : g.kind = .render)
    (hm : c.met g.endCondition = false) : c.endAtHome = c := by
  simp [Station.endAtHome, Station.testCurrent, hc, hk, hm]

/-- A rewind segment that ends by the home switch retires the line. -/
theorem Station.endAtHome_rewind {g : Segment} (hs : c.state = .rewind) (hc : c.drive.cur = some g)
    (hk : g.kind = .heave) (hh : c.drive.homeClosed = true) (he : g.endCondition = .homeClosed) :
    c.endAtHome =
      ({ c with drive := c.drive.promote c.settings.stallTime }).enterStowed.latch .stateReached := by
  have hend : c.endSegment .endCondition =
      ({ c with drive := c.drive.promote c.settings.stallTime }).enterStowed.latch .stateReached := by
    simp [Station.endSegment, hc, Station.takeConditionEnd, hs]
  simp only [Station.endAtHome, hc, if_pos hk]
  refine (Station.runEnds_of_home hc hk hh 2).trans ?_
  rw [if_pos he, hend]
  exact Station.runEnds_of_empty
    (c := ({ c with drive := c.drive.promote c.settings.stallTime }).enterStowed.latch .stateReached)
    (Station.cur_change { c with drive := c.drive.promote c.settings.stallTime } .stowed) 2

end

theorem Station.Retired.of_drive {c d : Station} {x : Drive} (h : ({ c with drive := x }).Retired d)
    (hx : c.KeepsGround { c with drive := x }) : c.Retired d := by
  obtain ⟨⟨hstate, hmonitor, hviews⟩, hvessel, hfitting, hband, hoptions, hempty, ⟨hcommand, hfield, hdeadline⟩, hrest⟩ := h
  obtain ⟨⟨v1, v2, v3, v4, v5, v6, v7, v8⟩, ⟨k1, k2, k3⟩, -⟩ := hx
  obtain ⟨w1, w2, w3, w4, w5, w6, w7, w8⟩ := hviews
  exact ⟨⟨hstate, hmonitor, w1.trans v1, w2.trans v2, w3.trans v3, w4.trans v4, w5.trans v5, w6.trans v6, w7.trans v7,
    w8.trans v8⟩, hvessel, hfitting, hband, hoptions, hempty, ⟨hcommand.trans k1, hfield.trans k2, hdeadline.trans k3⟩,
    hrest⟩

theorem EventTakes.retiring {c : Instr} {s : State} {i : StationId} {x d : Station} (h : EventTakes c s i d)
    (hd : x.Retired d) (hrep : d.toSequencer = (s.st i).toSequencer ++ [.entered .stowed]) :
    Completes c s fun t => s.OnlyStation t i ∧ x.Retired (t.st i) ∧ s.Reports t i [.entered .stowed] := by
  refine h.taking.mono fun t ⟨honly, htakes⟩ => ⟨honly, ?_, htakes.reports hrep⟩
  rw [htakes]
  exact hd

theorem eventTakes_homeClosing {s : State} {i : StationId} (h : s.inReset = false)
    (hh : (s.st i).drive.homeClosed = false) :
    EventTakes (.homeClosing i) s i (s.st i).referenced.endAtHome.takeHomeClosed := by
  rw [← Station.homeCloses_opened hh]
  exact eventTakes_of_stationEvent h rfl

/-- The home closing of a HEAVE line is a fault, whatever its segment was. -/
theorem Station.homeCloses_heave {c : Station} (hs : c.state = .heave) (hh : c.drive.homeClosed = true)
    (hc : ∀ g, c.drive.cur = some g → g.kind = .heave ∧ g.endCondition ≠ .homeClosed) :
    c.endAtHome.takeHomeClosed = c.enterFault .noLoad := by
  have hfault (d : Drive) : ({ c with drive := d }).takeHomeClosed = ({ c with drive := d }).enterFault .noLoad := by
    simp [Station.takeHomeClosed, hs]
  cases hcur : c.drive.cur with
  | none => exact (congrArg Station.takeHomeClosed (Station.endAtHome_of_empty hcur)).trans (hfault c.drive)
  | some g =>
    obtain ⟨hk, he⟩ := hc g hcur
    rw [Station.endAtHome_limit hcur hk hh he, hfault]
    rfl

/-- The home closing of a REWIND line retires it, whatever its segment was. -/
theorem Station.homeCloses_rewind {c : Station} (hs : c.state = .rewind) (hh : c.drive.homeClosed = true)
    (hc : ∀ g, c.drive.cur = some g → g.kind = .heave) :
    ∃ x : Drive, c.KeepsGround { c with drive := x } ∧
      c.endAtHome.takeHomeClosed = ({ c with drive := x }).enterStowed.latch .stateReached := by
  have hhome (d : Drive) : ({ c with drive := d }).takeHomeClosed =
      ({ c with drive := d }).enterStowed.latch .stateReached := by
    simp [Station.takeHomeClosed, hs]
  cases hcur : c.drive.cur with
  | none =>
    exact ⟨c.drive, Station.KeepsGround.refl c,
      (congrArg Station.takeHomeClosed (Station.endAtHome_of_empty hcur)).trans (hhome c.drive)⟩
  | some g =>
    by_cases he : g.endCondition = .homeClosed
    · refine ⟨c.drive.promote c.settings.stallTime, c.keepsGround_promote _, ?_⟩
      rw [Station.endAtHome_rewind hs hcur (hc g hcur) hh he]
      rfl
    · refine ⟨c.drive.stop, c.keepsGround_stop, ?_⟩
      rw [Station.endAtHome_limit hcur (hc g hcur) hh he, hhome]
      rfl

/-- Settles O48: the closing by the state of the line and the kind of its segment. -/
theorem aHomeClosingReferencesThePayout : Obligations.AHomeClosingReferencesThePayout := by
  intro i s c hc h
  obtain rfl : c = (s.st i).referenced := hc
  refine ⟨fun hh => ⟨fun hs hcur => ?_, fun hs hcur => ?_, fun hs hs' hcur hsome => ?_, fun hs hs' hcur => ?_⟩,
    fun hh => ?_, ?_⟩
  · have takes := eventTakes_homeClosing h hh
    rw [Station.homeCloses_heave (c := (s.st i).referenced) hs rfl hcur] at takes
    exact takes.faulting rfl
  · have takes := eventTakes_homeClosing h hh
    obtain ⟨x, hkeeps, hx⟩ := Station.homeCloses_rewind (c := (s.st i).referenced) hs rfl hcur
    rw [hx] at takes
    exact takes.retiring (Station.Retired.of_drive (Station.retired_enterStowed _) hkeeps) rfl
  · have takes := eventTakes_homeClosing h hh
    obtain ⟨g, hg⟩ := Option.isSome_iff_exists.mp hsome
    obtain ⟨hk, he⟩ := hcur g hg
    have hstays : ({ (s.st i).referenced with drive := (s.st i).referenced.drive.stop } : Station).takeHomeClosed =
        { (s.st i).referenced with drive := (s.st i).referenced.drive.stop } :=
      Station.takeHomeClosed_of_state hs hs'
    rw [Station.endAtHome_limit (c := (s.st i).referenced) hg hk rfl he, hstays, hstays, hstays] at takes
    refine (takes.silent rfl).mono fun t ⟨honly, ht⟩ => ⟨honly, ?_⟩
    rw [ht]
    exact ⟨rfl, ⟨rfl, rfl, rfl, rfl, rfl, rfl, rfl, rfl⟩, ⟨rfl, rfl, rfl⟩, ⟨rfl, rfl, rfl, rfl, rfl⟩⟩
  · have takes := eventTakes_homeClosing h hh
    have hstays : (s.st i).referenced.endAtHome = (s.st i).referenced := by
      cases hg : (s.st i).drive.cur with
      | none => exact Station.endAtHome_of_empty hg
      | some g =>
        obtain ⟨hk, hm⟩ := hcur g hg
        exact Station.endAtHome_render (c := (s.st i).referenced) hg hk hm
    rw [hstays, Station.takeHomeClosed_of_state (c := (s.st i).referenced) hs hs'] at takes
    exact takes.silent rfl
  · have takes : EventTakes (.homeClosing i) s i (s.st i).homeCloses := eventTakes_of_stationEvent h rfl
    rw [Station.homeCloses_closed hh] at takes
    exact takes.keeping
  · have takes : EventTakes (.homeOpening i) s i
        { s.st i with drive := { (s.st i).drive with homeClosed := false } } :=
      eventTakes_of_stationEvent (g := fun c => { c with drive := { c.drive with homeClosed := false } }) h rfl
    exact takes.silent rfl

/-! ### The ends of a segment (R32, R33, R47, R86, R87, R95) -/

/-- The record with its drive stopped. -/
def Station.stopped (c : Station) : Station := { c with drive := c.drive.stop }

/-- The record whose waiting segment has become current. -/
def Station.promoted (c : Station) (g : Segment) : Station :=
  { c with drive := ({ c.drive with nxt := none }).start c.settings.stallTime g }

section
variable {c : Station} {g : Segment} (hc : c.drive.cur = some g)
include hc

theorem Station.testCurrent_stays {kind : EndCondition → Bool}
    (h : kind g.endCondition = false ∨ c.met g.endCondition = false) : c.testCurrent kind = c := by
  simp only [Station.testCurrent, hc]
  refine if_neg ?_
  rcases h with h | h <;> simp [h]

theorem Station.testCurrent_ends {kind : EndCondition → Bool} (hk : kind g.endCondition = true)
    (hm : c.met g.endCondition = true) : c.testCurrent kind = (c.endSegment .endCondition).settleEnds := by
  simp [Station.testCurrent, hc, hk, hm]

/-- The last segment's end by its condition, whole. -/
theorem Station.testCurrent_last {kind : EndCondition → Bool} (hk : kind g.endCondition = true)
    (hm : c.met g.endCondition = true) (hn : c.drive.nxt = none) : c.testCurrent kind = c.stopped.takeConditionEnd g := by
  rw [Station.testCurrent_ends hc hk hm, Station.endSegment_last hc hn]
  exact Station.settleEnds_of_empty (Station.cur_takeConditionEnd rfl g)

omit hc in
/-- A segment that becomes current goes on where nothing ends it. -/
theorem Station.settleEnds_promoted {h : Segment} (hh : c.drive.homeClosed = false)
    (hm : c.met h.endCondition = false) : (c.promoted h).settleEnds = c.promoted h := by
  have hmet : (c.promoted h).met h.endCondition = c.met h.endCondition := by
    cases h.endCondition <;> rfl
  exact Station.settleEnds_of_running rfl (fun _ => hh) (hmet.trans hm)

theorem Station.endSegment_duration_last (hn : c.drive.nxt = none) : (c.endSegment .duration).settleEnds = c.stopped := by
  have hend : c.endSegment .duration = c.stopped := by
    simp [Station.endSegment, hc, Drive.promote, hn, Station.stopped]
  rw [hend]
  exact Station.settleEnds_of_empty rfl

theorem Station.endSegment_duration_next {h : Segment} (hn : c.drive.nxt = some h) (hh : c.drive.homeClosed = false)
    (hm : c.met h.endCondition = false) : (c.endSegment .duration).settleEnds = c.promoted h := by
  have hend : c.endSegment .duration = c.promoted h := by
    simp [Station.endSegment, hc, Drive.promote, hn, Station.promoted]
  rw [hend]
  exact Station.settleEnds_promoted hh hm

theorem Station.endSegment_stall : c.endSegment .stall = c.stopped.takeStall := by
  simp [Station.endSegment, hc, Station.stopped]

end

theorem Station.takeStall_faults {c : Station} (h : c.state = .payout ∨ c.state = .heave ∨ c.state = .rewind) :
    c.takeStall = c.enterFault .stall := by
  rcases h with h | h | h <;> simp [Station.takeStall, h]

theorem Station.takeStall_stays {c : Station} (h : c.state ≠ .payout) (h' : c.state ≠ .heave) (h'' : c.state ≠ .rewind) :
    c.takeStall = c := by
  unfold Station.takeStall
  split
  · next e => exact absurd e h
  · next e => exact absurd e h'
  · next e => exact absurd e h''
  · rfl

section
variable {s : State} {i : StationId} (h : s.inReset = false)
include h

theorem eventTakes_tensionEnd : EventTakes (.tensionEndCondition i) s i ((s.st i).testCurrent EndCondition.onTension) :=
  eventTakes_of_stationEvent (g := fun c => c.testCurrent EndCondition.onTension) h rfl

theorem eventTakes_durationExpiry (hd : (s.st i).drive.durTimer.isSome = true) :
    EventTakes (.durationExpiry i) s i ((s.st i).endSegment .duration).settleEnds := by
  have takes := eventTakes_of_stationEvent (c := .durationExpiry i) (i := i) h
    (g := fun c => if c.drive.durTimer.isSome then (c.endSegment .duration).settleEnds else c) rfl
  rwa [if_pos hd] at takes

theorem eventTakes_stallExpiry (hd : (s.st i).drive.stallTimer.isSome = true) :
    EventTakes (.stallExpiry i) s i ((s.st i).endSegment .stall) := by
  have takes := eventTakes_of_stationEvent (c := .stallExpiry i) (i := i) h
    (g := fun c => if c.drive.stallTimer.isSome then c.endSegment .stall else c) rfl
  rwa [if_pos hd] at takes

/-- Without its timer neither expiry does anything. -/
theorem noExpiry_keeps :
    ((s.st i).drive.durTimer = none → Completes (.durationExpiry i) s fun t => t = s) ∧
      ((s.st i).drive.stallTimer = none → Completes (.stallExpiry i) s fun t => t = s) := by
  constructor
  · intro hd
    have takes := eventTakes_of_stationEvent (c := .durationExpiry i) (i := i) h
      (g := fun c => if c.drive.durTimer.isSome then (c.endSegment .duration).settleEnds else c) rfl
    rw [if_neg (by simp [hd])] at takes
    exact takes.keeping
  · intro hd
    have takes := eventTakes_of_stationEvent (c := .stallExpiry i) (i := i) h
      (g := fun c => if c.drive.stallTimer.isSome then c.endSegment .stall else c) rfl
    rw [if_neg (by simp [hd])] at takes
    exact takes.keeping

end

/-- What a segment that becomes current leaves of its record, whole. -/
theorem EventTakes.promoting {c : Instr} {s : State} {i : StationId} {g : Segment}
    (h : EventTakes c s i ((s.st i).promoted g)) :
    Completes c s fun t => s.OnlyStation t i ∧ t.st i = { s.st i with drive := (t.st i).drive } ∧
      (s.st i).KeepsViews (t.st i) ∧ (s.st i).KeepsClamp (t.st i) ∧ (t.st i).drive.nxt = none ∧
      (t.st i).Runs g (if g.supervised then some (s.st i).settings.stallTime else none) := by
  refine (h.silent rfl).mono fun t ⟨honly, ht⟩ => ⟨honly, ?_⟩
  rw [ht]
  exact ⟨rfl, ⟨rfl, rfl, rfl, rfl, rfl, rfl, rfl, rfl⟩, ⟨rfl, rfl, rfl⟩, rfl, ⟨rfl, rfl, rfl, rfl, rfl⟩⟩

/-- Settles O49: each end by its cause, and what the line controller makes of it in each state. -/
theorem segmentsEndByConditionDurationOrStall : Obligations.SegmentsEndByConditionDurationOrStall := by
  intro i s g hcur c hc h
  obtain rfl : c = (s.st i).stopped := hc
  have tension := eventTakes_tensionEnd (i := i) h
  refine ⟨fun hno => ?_, fun hk hm => ⟨fun hs hn => ?_, fun hs hsup next hn hmet hh => ?_, fun hs hsup hn => ?_,
    fun hs hn => ?_⟩, (noExpiry_keeps h).1, fun hd => ⟨fun hn => ?_, fun next hn hmet hh => ?_⟩,
    (noExpiry_keeps h).2, fun hd => ⟨fun hs => ?_, fun hs hs' hs'' => ?_⟩⟩
  · rw [Station.testCurrent_stays hcur hno] at tension
    exact tension.keeping
  · rw [Station.testCurrent_last hcur hk hm hn, Station.takeConditionEnd_tended (c := (s.st i).stopped) hs] at tension
    exact tension.silent rfl
  · have hend : (s.st i).endSegment .endCondition = (s.st i).promoted next := by
      rw [Station.endSegment_next hcur hn]
      simp [Station.takeConditionEnd, Station.promoted, hs, hsup]
    rw [Station.testCurrent_ends hcur hk hm, hend, Station.settleEnds_promoted hh hmet] at tension
    exact tension.promoting
  · have hend : (s.st i).stopped.takeConditionEnd g = ((s.st i).stopped.change .tended).latch .stateReached := by
      simp [Station.takeConditionEnd, Station.stopped, hs, hsup]
    rw [Station.testCurrent_last hcur hk hm hn, hend] at tension
    refine tension.taking.mono fun t ⟨honly, htakes⟩ => ⟨honly, ?_⟩
    have hrep := htakes.reports (new := [.entered .tended]) rfl
    rw [htakes.eq_but_reports]
    exact ⟨(s.st i).movedTo_change .tended, ⟨rfl, rfl, rfl⟩, ((s.st i).keepsGround_change .tended).2.1, rfl,
      ⟨rfl, rfl, rfl, rfl, rfl⟩, ⟨rfl, rfl, rfl, rfl, rfl⟩, by rw [← hs]; rfl, hrep⟩
  · have hend : (s.st i).stopped.takeConditionEnd g = ((s.st i).stopped.change .slack).latch .stateReached := by
      simp [Station.takeConditionEnd, Station.stopped, hs]
    rw [Station.testCurrent_last hcur hk hm hn, hend] at tension
    refine tension.taking.mono fun t ⟨honly, htakes⟩ => ⟨honly, ?_⟩
    have hrep := htakes.reports (new := [.entered .slack]) rfl
    rw [htakes.eq_but_reports]
    exact ⟨(s.st i).movedTo_change .slack, ⟨rfl, rfl, rfl⟩, ((s.st i).keepsGround_change .slack).2.1, rfl,
      ⟨rfl, rfl, rfl, rfl, rfl⟩, rfl, rfl, rfl, by rw [← hs]; rfl, hrep⟩
  · have takes := eventTakes_durationExpiry h hd
    rw [Station.endSegment_duration_last hcur hn] at takes
    exact takes.silent rfl
  · have takes := eventTakes_durationExpiry h hd
    rw [Station.endSegment_duration_next hcur hn hh hmet] at takes
    exact takes.promoting
  · have takes := eventTakes_stallExpiry h hd
    rw [Station.endSegment_stall hcur, Station.takeStall_faults (c := (s.st i).stopped) hs] at takes
    exact EventTakes.faulting (x := s.st i) takes rfl
  · have takes := eventTakes_stallExpiry h hd
    rw [Station.endSegment_stall hcur, Station.takeStall_stays (c := (s.st i).stopped) hs hs' hs''] at takes
    exact takes.silent rfl

/-! ### The clamp confirms or times out (R39, R46, R51, R97, R98, R150) -/

/-- The record whose clamp has reached a position. -/
def Station.arrivedAt (c : Station) (p : ClampPosition) : Station :=
  { c with drive := { c.drive with reading := p.reading, field := p.field, deadline := none } }

/-- The record whose clamp has not reached its position in time. -/
def Station.late (c : Station) : Station := { c with drive := { c.drive with field := .unknown, deadline := none } }

section
variable {s : State} {i : StationId} (h : s.inReset = false)
include h

/-- What CLAMP_CONFIRM comes to, by the command and the field. -/
def Station.confirmEvent (c : Station) : Station :=
  match c.drive.command with
  | some p => if c.drive.field.travelling then c.readSwitches p.reading else c
  | none => c

theorem eventTakes_clampConfirm : EventTakes (.clampConfirm i) s i (s.st i).confirmEvent :=
  eventTakes_of_stationEvent h rfl

theorem eventTakes_clampTimeout (hd : (s.st i).drive.deadline.isSome = true) :
    EventTakes (.clampTimeout i) s i (s.st i).late.takeTimeout := by
  have takes := eventTakes_of_stationEvent (c := .clampTimeout i) (i := i) h
    (g := fun c => if c.drive.deadline.isSome then c.late.takeTimeout else c) rfl
  rwa [if_pos hd] at takes

end

theorem Station.confirmEvent_travelling {c : Station} {p : ClampPosition} (hc : c.drive.command = some p)
    (hf : c.drive.field = p.travel) : c.confirmEvent = (c.arrivedAt p).takeConfirm p := by
  have ht : c.drive.field.travelling = true := by rw [hf, p.travelling_travel]
  have hread : c.confirmEvent = c.readSwitches p.reading := by
    simp [Station.confirmEvent, hc, ht]
  rw [hread, Station.readSwitches_travelling ht]
  have hconf : Drive.confirms { c.drive with reading := p.reading } = some p := by
    simp [Drive.confirms, hc, hf]
  simp only [Station.confirmIfThere, hconf]
  rfl

theorem Station.confirmEvent_rest {c : Station} (h : c.drive.field.travelling = false) : c.confirmEvent = c := by
  unfold Station.confirmEvent
  split
  · exact if_neg (by simp [h])
  · rfl

section
variable {c : Station}

theorem Station.takeConfirm_locks (hs : c.state = .locking) :
    c.takeConfirm .closed = (c.change .locked).latch .stateReached := by
  simp [Station.takeConfirm, hs]

theorem Station.takeConfirm_renders (hs : c.state = .easing) (hp : c.easingPhase = some .opening) :
    c.takeConfirm .opened = c.startRendering := by
  simp [Station.takeConfirm, hs, hp]

theorem Station.takeConfirm_rewinds (hs : c.state = .slack) (hr : c.clearRemembered = some true) :
    c.takeConfirm .opened = c.enterRewind := by
  simp [Station.takeConfirm, hs, hr]

/-- The render of a line that eases. -/
theorem Station.startRendering_runs (hf : c.drive.field = .opened) (hm : c.drive.mode ≠ .running)
    (ha : c.average.any (fun a => decide (a ≤ c.settings.releaseThreshold - 1)) = false) :
    c.startRendering = ({ c with easingPhase := some .rendering }).started c.easeSegment :=
  Station.write_runs (c := { c with easingPhase := some .rendering }) hf hm ⟨nofun, ha⟩

theorem Station.takeTimeout_faults
    (h : c.state = .locking ∨ c.state = .easing ∨ c.state = .tended ∨ c.state = .slack) :
    c.takeTimeout = c.enterFault .clamp := by
  rcases h with h | h | h | h <;> simp [Station.takeTimeout, h]

theorem Station.takeTimeout_fault (h : c.state = .fault) : c.takeTimeout = c.furtherFault := by
  simp [Station.takeTimeout, h]

theorem Station.takeTimeout_stays (h1 : c.state ≠ .locking) (h2 : c.state ≠ .easing) (h3 : c.state ≠ .tended)
    (h4 : c.state ≠ .slack) (h5 : c.state ≠ .fault) : c.takeTimeout = c := by
  unfold Station.takeTimeout
  split
  · next e => exact absurd e h1
  · next e => exact absurd e h2
  · next e => exact absurd e h3
  · next e => exact absurd e h4
  · next e => exact absurd e h5
  · rfl

end

/-- Settles O50: a confirmation by the state it finds, and a deadline by the state it finds. -/
theorem theClampConfirmsOrTimesOut : Obligations.TheClampConfirmsOrTimesOut := by
  intro i p s h
  have takes := eventTakes_clampConfirm (i := i) h
  refine ⟨fun hcmd hf c hc => ?_, fun hf => ?_, fun hd => ?_, fun hd c hc => ?_⟩
  · obtain rfl : c = (s.st i).arrivedAt p := hc
    rw [Station.confirmEvent_travelling hcmd hf] at takes
    refine ⟨fun hs hp => ?_, fun hs hp hphase hm hn ha => ?_, fun hs hp hclear hh hpay => ?_, fun h1 h2 h3 => ?_⟩
    · subst hp
      rw [Station.takeConfirm_locks (c := (s.st i).arrivedAt .closed) hs] at takes
      refine takes.taking.mono fun t ⟨honly, htakes⟩ => ⟨honly, ?_⟩
      have hrep := htakes.reports (new := [.entered .locked]) rfl
      rw [htakes.eq_but_reports]
      exact ⟨rfl, ⟨rfl, rfl, rfl, rfl, rfl⟩, ⟨rfl, rfl, rfl, rfl, rfl⟩, ⟨rfl, rfl, rfl⟩,
        (((s.st i).arrivedAt .closed).keepsGround_change .locked).1,
        (((s.st i).arrivedAt .closed).keepsGround_change .locked).2.1, rfl, by rw [← hs]; rfl, by rw [← hs]; rfl, hrep⟩
    · subst hp
      rw [Station.takeConfirm_renders (c := (s.st i).arrivedAt .opened) hs hphase,
        Station.startRendering_runs (c := (s.st i).arrivedAt .opened) rfl hm ((all_gt_iff _ _).mp ha)] at takes
      refine (takes.silent rfl).mono fun t ⟨honly, ht⟩ => ⟨honly, ?_⟩
      rw [ht]
      exact ⟨hn, ⟨rfl, rfl, rfl, rfl, rfl⟩, ⟨rfl, rfl, rfl⟩, ⟨rfl, rfl, rfl, rfl, rfl, rfl, rfl, rfl⟩, rfl⟩
    · subst hp
      obtain ⟨hruns, -⟩ := Station.enterRewind_outcomes (c := (s.st i).arrivedAt .opened) rfl
      rw [Station.takeConfirm_rewinds (c := (s.st i).arrivedAt .opened) hs hclear, hruns hh hpay] at takes
      refine takes.taking.mono fun t ⟨honly, htakes⟩ => ⟨honly, ?_⟩
      have hrep := htakes.reports (new := [.entered .rewind]) rfl
      rw [htakes.eq_but_reports]
      exact ⟨((s.st i).arrivedAt .opened).movedTo_change .rewind, ⟨rfl, rfl, rfl⟩,
        (((s.st i).arrivedAt .opened).keepsGround_change .rewind).2.1, ⟨rfl, rfl, rfl, rfl, rfl⟩,
        ⟨rfl, rfl, rfl, rfl, rfl⟩, hrep⟩
    · rw [Station.takeConfirm_of_still (c := (s.st i).arrivedAt p) ⟨fun hs hp => h1 ⟨hs, hp⟩,
        fun hs hp hphase => h2 ⟨hs, hp, hphase⟩, fun hs hp hclear => h3 ⟨hs, hp, hclear⟩⟩] at takes
      exact takes.silent rfl
  · rw [Station.confirmEvent_rest hf] at takes
    exact takes.keeping
  · have late := eventTakes_of_stationEvent (c := .clampTimeout i) (i := i) h
      (g := fun c => if c.drive.deadline.isSome then c.late.takeTimeout else c) rfl
    rw [if_neg (by simp [hd])] at late
    exact late.keeping
  · obtain rfl : c = (s.st i).late := hc
    have late := eventTakes_clampTimeout h hd
    refine ⟨fun hs => ?_, fun hs => ?_, fun h1 h2 h3 h4 h5 => ?_⟩
    · rw [Station.takeTimeout_faults (c := (s.st i).late) hs] at late
      exact late.faulting rfl
    · rw [Station.takeTimeout_fault (c := (s.st i).late) hs] at late
      exact late.silent rfl
    · rw [Station.takeTimeout_stays (c := (s.st i).late) h1 h2 h3 h4 h5] at late
      exact late.silent rfl

/-! ### The switches of the clamp, and the ease limit (R48, R97, R100) -/

/-- The record whose clamp field has followed its switches. -/
def Station.followed (c : Station) (r : SwitchReading) : Station :=
  { c with drive := { c.drive with reading := r, field := fieldOfReading r } }

section
variable {c : Station} {r : SwitchReading}

/-- The same with a running drive stopped. -/
def Station.followedStopped (c : Station) (r : SwitchReading) : Station :=
  { c.followed r with
    drive := if c.drive.mode = DriveMode.running then (c.followed r).drive.stop else (c.followed r).drive }

/-- A field that leaves OPEN stops a running drive, and the line controller is told. -/
theorem Station.readSwitches_leaves (hf : c.drive.field = .opened) (hn : fieldOfReading r ≠ .opened) :
    c.readSwitches r = (c.followedStopped r).takeLeftOpen := by
  have ht : ¬c.drive.field.travelling = true := by rw [hf]; decide
  simp only [Station.readSwitches, if_neg ht, if_pos (And.intro hf hn)]
  rfl

theorem Station.takeLeftOpen_faults (h : c.state = .payout ∨ c.state = .heave ∨ c.state = .tended ∨ c.state = .slack ∨
    c.state = .rewind ∨ (c.state = .easing ∧ c.easingPhase = some .rendering)) :
    c.takeLeftOpen = c.enterFault .clamp := by
  rcases h with h | h | h | h | h | ⟨h, hp⟩
  · simp [Station.takeLeftOpen, h]
  · simp [Station.takeLeftOpen, h]
  · simp [Station.takeLeftOpen, h]
  · simp [Station.takeLeftOpen, h]
  · simp [Station.takeLeftOpen, h]
  · simp [Station.takeLeftOpen, h, hp]

theorem Station.takeLeftOpen_stays (h : c.state = .stowed ∨ c.state = .locking ∨ c.state = .locked ∨ c.state = .fault ∨
    c.state = .halted ∨ (c.state = .easing ∧ c.easingPhase ≠ some .rendering)) : c.takeLeftOpen = c := by
  rcases h with h | h | h | h | h | ⟨h, hp⟩
  · simp [Station.takeLeftOpen, h]
  · simp [Station.takeLeftOpen, h]
  · simp [Station.takeLeftOpen, h]
  · simp [Station.takeLeftOpen, h]
  · simp [Station.takeLeftOpen, h]
  · simp [Station.takeLeftOpen, h, hp]

/-- A reading that is not the position commanded confirms nothing. -/
theorem Station.readSwitches_elsewhere {p : ClampPosition} (hc : c.drive.command = some p)
    (hf : c.drive.field = p.travel) (hr : r ≠ p.reading) :
    c.readSwitches r = { c with drive := { c.drive with reading := r } } := by
  rw [Station.readSwitches_travelling (by rw [hf, p.travelling_travel])]
  exact Station.confirmIfThere_of_none (by simp [Drive.confirms, hc, hr])

/-- Stopped before or not, the record in FAULT is the same. -/
theorem Station.enterFault_followedStopped (c : Station) (r : SwitchReading) (cause : FaultCause) :
    (c.followedStopped r).enterFault cause = (c.followed r).enterFault cause := by
  unfold Station.followedStopped
  split <;> rfl

theorem Station.followedStopped_eq (c : Station) (r : SwitchReading) : c.followedStopped r =
    if c.drive.mode = .running then { c.followed r with drive := (c.followed r).drive.stop } else c.followed r := by
  unfold Station.followedStopped
  split <;> rfl

end

/-- Settles O51: a reading at rest, a reading in travel, and the ease limit. -/
theorem theClampFieldFollowsItsSwitches : Obligations.TheClampFieldFollowsItsSwitches := by
  intro i r s now hnow c hc h
  obtain rfl : now = fieldOfReading r := by
    rw [hnow]
    cases r <;> rfl
  obtain rfl : c = (s.st i).followed r := hc
  have takes : EventTakes (.clampChange i r) s i ((s.st i).readSwitches r) :=
    eventTakes_of_stationEvent (g := fun c => c.readSwitches r) h rfl
  have eases := eventTakes_of_stationEvent (c := .easeLimitExpiry i) (i := i) h
    (g := fun c => if c.easeTimer.isSome then c.enterFault .easeLimit else c) rfl
  refine ⟨fun ht => ⟨fun hf => ?_, fun hf hn => ⟨fun hs => ?_, fun hs => ?_⟩⟩, fun p hcmd hf hr => ?_, fun he => ?_,
    fun he => ?_⟩
  · rw [Station.readSwitches_rest ht r hf] at takes
    exact takes.silent rfl
  · rw [Station.readSwitches_leaves hf hn, Station.takeLeftOpen_faults (c := (s.st i).followedStopped r) hs,
      Station.enterFault_followedStopped] at takes
    exact takes.faulting rfl
  · rw [Station.readSwitches_leaves hf hn, Station.takeLeftOpen_stays (c := (s.st i).followedStopped r) hs] at takes
    exact (takes.silent rfl).mono fun t ⟨honly, ht⟩ => ⟨honly, ht.trans ((s.st i).followedStopped_eq r)⟩
  · rw [Station.readSwitches_elsewhere hcmd hf hr] at takes
    exact takes.silent rfl
  · rw [if_pos he] at eases
    exact eases.faulting rfl
  · rw [if_neg (by simp [he])] at eases
    exact eases.keeping

end Sys2Proof.Machine
end

section
/-! PROOF. Encoder counts and the payout (R90, R91), with the creep of R56. -/

namespace Sys2Proof.Machine

/-! ### What a count makes of the payout (R91, R94) -/

theorem Drive.counted_render (d : Drive) :
    d.counted .render = { d with payout := d.payout.map fun p => min 25000 (p + 1), overrun := 0 } := by
  obtain ⟨mode, dir, cur, nxt, duration, stall, payout, overrun, encoder, quarters, home, command, field, reading,
    deadline⟩ := d
  cases payout <;> rfl

theorem Drive.counted_heave (d : Drive) :
    d.counted .heave = { d with
      payout := d.payout.map fun p => p - 1
      overrun := if d.payout = some 0 ∧ d.homeClosed = false then min 65535 (d.overrun + 1) else d.overrun } := by
  obtain ⟨mode, dir, cur, nxt, duration, stall, payout, overrun, encoder, quarters, home, command, field, reading,
    deadline⟩ := d
  cases payout with
  | none => rfl
  | some p =>
    cases p with
    | zero => cases home <;> rfl
    | succ n => simp [Drive.counted]

/-- The record after a count, before any segment is tested. -/
def Station.countedBy (c : Station) (dir : CountDir) (v : EncoderLevels) : Station :=
  { c with drive := (({ c.drive with encoder := v, quarters := 0 } : Drive).restartStall c.settings.stallTime).counted dir }

section
variable (c : Station) (v : EncoderLevels)

theorem Station.countedBy_render : c.countedBy .render v = { c with drive := { c.drive with
    encoder := v
    quarters := 0
    payout := c.drive.payout.map fun p => min 25000 (p + 1)
    overrun := 0
    stallTimer := c.drive.stallTimer.map fun _ => c.settings.stallTime } } := by
  rw [Station.countedBy, Drive.counted_render]
  rfl

theorem Station.countedBy_heave : c.countedBy .heave v = { c with drive := { c.drive with
    encoder := v
    quarters := 0
    payout := c.drive.payout.map fun p => p - 1
    overrun :=
      if c.drive.payout = some 0 ∧ c.drive.homeClosed = false then min 65535 (c.drive.overrun + 1) else c.drive.overrun
    stallTimer := c.drive.stallTimer.map fun _ => c.settings.stallTime } } := by
  rw [Station.countedBy, Drive.counted_heave]
  rfl

/-- A count moves the payout, the overrun, the decoder and the stall timer alone. -/
theorem Station.countedBy_frame (dir : CountDir) : c.countedBy dir v = { c with drive := { c.drive with
    encoder := (c.countedBy dir v).drive.encoder
    quarters := (c.countedBy dir v).drive.quarters
    payout := (c.countedBy dir v).drive.payout
    overrun := (c.countedBy dir v).drive.overrun
    stallTimer := (c.countedBy dir v).drive.stallTimer } } := by
  cases dir with
  | render => rw [Station.countedBy_render]
  | heave => rw [Station.countedBy_heave]

end

/-- What a count makes of a segment and of an arrival at zero. -/
theorem Station.takeCount_eq (c : Station) (dir : CountDir) (v : EncoderLevels) :
    ({ c with drive := { c.drive with encoder := v, quarters := 0 } }).takeCount dir =
      if c.drive.arrives dir then ((c.countedBy dir v).testCurrent EndCondition.onPayout).takeZero
      else (c.countedBy dir v).testCurrent EndCondition.onPayout := rfl

theorem Drive.decode_same (d : Drive) (h : -3 ≤ d.quarters) (h' : d.quarters ≤ 3) :
    d.decode d.encoder = ({ d with encoder := d.encoder, quarters := d.quarters }, none) := by
  have hstep : quarterStep d.encoder d.encoder = 0 := by
    simp [quarterStep]
  unfold Drive.decode
  simp only [hstep, Int.add_zero, ne_eq, not_true, false_and, if_false]
  rw [if_neg (by omega), if_neg (by omega)]

/-- Levels that complete no cycle move the decoder alone. -/
theorem Station.takeLevels_of_none {c : Station} {v : EncoderLevels} {n : Int}
    (h : c.drive.decode v = ({ c.drive with encoder := v, quarters := n }, none)) :
    c.takeLevels v = { c with drive := { c.drive with encoder := v, quarters := n } } := by
  simp only [Station.takeLevels, h]

/-- Levels that complete a cycle are a count. -/
theorem Station.takeLevels_of_some {c : Station} {v : EncoderLevels} {dir : CountDir}
    (h : c.drive.decode v = ({ c.drive with encoder := v, quarters := 0 }, some dir)) :
    c.takeLevels v =
      if c.drive.arrives dir then ((c.countedBy dir v).testCurrent EndCondition.onPayout).takeZero
      else (c.countedBy dir v).testCurrent EndCondition.onPayout := by
  rw [← Station.takeCount_eq]
  simp only [Station.takeLevels, h]

/-- The decoder between counts, by the four ways the levels can go (R90). -/
theorem Drive.decode_quiet {d : Drive} {v : EncoderLevels} {n : Int} (h : -3 ≤ d.quarters) (h' : d.quarters ≤ 3)
    (hv : v = ⟨!d.encoder.b, d.encoder.a⟩ ∧ n = d.quarters + 1 ∧ n ≠ 4 ∨
      v = ⟨d.encoder.b, !d.encoder.a⟩ ∧ n = d.quarters - 1 ∧ n ≠ -4 ∨
      v = d.encoder ∧ n = d.quarters ∨ v = ⟨!d.encoder.a, !d.encoder.b⟩ ∧ n = 0) :
    d.decode v = ({ d with encoder := v, quarters := n }, none) := by
  rcases hv with ⟨rfl, rfl, hn⟩ | ⟨rfl, rfl, hn⟩ | ⟨rfl, rfl⟩ | ⟨rfl, rfl⟩
  · rw [Drive.decode_render h, if_neg (by omega)]
  · rw [Drive.decode_heave h', if_neg (by omega)]
  · exact Drive.decode_same d h h'
  · exact Drive.decode_both d

/-- The decoder at a count (R90). -/
theorem Drive.decode_count {d : Drive} {v : EncoderLevels} {dir : CountDir}
    (hv : dir = .render ∧ v = ⟨!d.encoder.b, d.encoder.a⟩ ∧ d.quarters = 3 ∨
      dir = .heave ∧ v = ⟨d.encoder.b, !d.encoder.a⟩ ∧ d.quarters = -3) :
    d.decode v = ({ d with encoder := v, quarters := 0 }, some dir) := by
  rcases hv with ⟨rfl, rfl, hq⟩ | ⟨rfl, rfl, hq⟩
  · rw [Drive.decode_render (by omega), if_pos hq]
  · rw [Drive.decode_heave (by omega), if_pos hq]

/-! ### Levels one after another -/

theorem AddsReports.foldl_takeLevels (levels : List EncoderLevels) :
    AddsReports fun c => levels.foldl Station.takeLevels c := by
  induction levels with
  | nil => exact AddsReports.id
  | cons v rest ih => exact AddsReports.comp (AddsReports.takeLevels v) ih

/-- Two claims in a row on one record are one, where the second reads no report. -/
theorem State.onLine_onLine (s : State) (i : StationId) {f g : Station → Station} (hg : AddsReports g) :
    (s.onLine i f).onLine i g = s.onLine i fun c => g (f c) := by
  have hheard : (s.onLine i f).heard i = s.heard i := by
    have hface : (s.onLine i f).faceOf i = s.faceOf i := rfl
    simp only [State.heard, hface, State.face_onLine]
  refine State.ext_parts rfl rfl (fun j => ?_) (fun h => by simp only [State.face_onLine]) rfl rfl rfl
  by_cases hj : j = i
  · subst hj
    rw [State.st_onLine_same, State.st_onLine_same, State.st_onLine_same, hheard]
    cases s.heard j with
    | true => rfl
    | false =>
      obtain ⟨new, hnew⟩ := hg (f (s.st j))
      simp only [Bool.false_eq_true, if_false]
      rw [hnew]
  · simp only [State.st_onLine_ne _ _ hj]

theorem exec_encoderCount {s : State} (h : s.inReset = false) (i : StationId) (levels : List EncoderLevels) :
    exec (.encoderCount i levels) s = .next (s.onLine i fun c => levels.foldl Station.takeLevels c) :=
  stationEvent_running h i _

theorem exec_encoderCount_cons {s t : State} (h : s.inReset = false) (i : StationId) (v : EncoderLevels)
    (rest : List EncoderLevels) (ht : exec (.encoderCount i [v]) s = .next t) :
    exec (.encoderCount i (v :: rest)) s = exec (.encoderCount i rest) t := by
  rw [exec_encoderCount h] at ht ⊢
  obtain rfl : s.onLine i (fun c => Station.takeLevels c v) = t := Host.Outcome.next.inj ht
  rw [exec_encoderCount (s := s.onLine i _) h, State.onLine_onLine s i (AddsReports.foldl_takeLevels rest)]
  rfl

theorem eventTakes_levels {s : State} {i : StationId} (h : s.inReset = false) (v : EncoderLevels) :
    EventTakes (.encoderCount i [v]) s i ((s.st i).takeLevels v) :=
  eventTakes_of_stationEvent (g := fun c => [v].foldl Station.takeLevels c) h rfl

/-! ### The arrival at zero and the creep (R34, R56) -/

section
variable {c : Station}

theorem Station.takeZero_heave (h : c.state = .heave) : c.takeZero = c.enterFault .noLoad := by
  simp [Station.takeZero, h]

theorem Station.takeZero_rewind_noMargin (h : c.state = .rewind) (hz : c.settings.homeMargin = 0) :
    c.takeZero = c.enterFault .home := by
  simp [Station.takeZero, h, hz]

theorem Station.takeZero_rewind_creeps (h : c.state = .rewind) (hz : c.settings.homeMargin ≠ 0)
    (hf : c.drive.field = .opened) (hh : c.drive.homeClosed = false) :
    c.takeZero = c.creeping.started c.creepSegment := by
  have hwrite : c.creeping.write c.creepSegment = c.creeping.started c.creepSegment :=
    Station.write_runs hf nofun ⟨fun _ => hh, hh⟩
  rw [← hwrite]
  unfold Station.takeZero
  split
  · next e => exact nomatch h.symm.trans e
  · exact if_neg hz
  · next e => exact absurd h e

theorem Station.takeZero_elsewhere (h : c.state ≠ .heave) (h' : c.state ≠ .rewind) : c.takeZero = c := by
  unfold Station.takeZero
  split
  · next e => exact absurd e h
  · next e => exact absurd e h'
  · rfl

theorem Station.testCurrent_unmet {kind : EndCondition → Bool}
    (h : ∀ g, c.drive.cur = some g → kind g.endCondition = true → c.met g.endCondition = false) :
    c.testCurrent kind = c := by
  cases hc : c.drive.cur with
  | none => simp [Station.testCurrent, hc]
  | some g =>
    refine Station.testCurrent_stays hc ?_
    cases hk : kind g.endCondition with
    | false => exact .inl rfl
    | true => exact .inr (h g hc hk)

theorem Station.spendMargin_spent {n : Nat} (hs : c.state = .rewind) (hn : c.creepSpent = some n)
    (h : n ≤ c.drive.overrun) : c.spendMargin = c.enterFault .home := if_pos ⟨hs, by simp [hn, h]⟩

theorem Station.spendMargin_left {n : Nat} (hn : c.creepSpent = some n) (h : c.drive.overrun < n) :
    c.spendMargin = c := if_neg fun ⟨_, hspent⟩ => by simp [hn] at hspent; omega

theorem Station.spendMargin_elsewhere (h : c.state ≠ .rewind ∨ c.creepSpent = none) : c.spendMargin = c := by
  refine if_neg fun ⟨hs, hspent⟩ => ?_
  rcases h with h | h
  · exact h hs
  · simp [h] at hspent

end

theorem Drive.arrives_iff (d : Drive) (dir : CountDir) :
    d.arrives dir = true ↔ d.payout = some 1 ∧ dir = .heave ∧ d.homeClosed = false := by
  simp [Drive.arrives, and_assoc]

/-- Settles O47: the decoder between counts, then a count by payout, segment and state, then the spent creep. -/
theorem encoderCountsMoveThePayout : Obligations.EncoderCountsMoveThePayout := by
  intro i dir v s h old hold q hq c hc
  subst hold hq
  obtain rfl : c = (s.st i).countedBy dir v := by
    rw [hc]
    cases dir with
    | render => exact (Station.countedBy_render _ v).symm
    | heave => exact (Station.countedBy_heave _ v).symm
  have hframe := (s.st i).countedBy_frame v dir
  have hstate : ((s.st i).countedBy dir v).state = (s.st i).state := by rw [hframe]
  have hcur : ((s.st i).countedBy dir v).drive.cur = (s.st i).drive.cur := by rw [hframe]
  have hfield : ((s.st i).countedBy dir v).drive.field = (s.st i).drive.field := by rw [hframe]
  have hhome : ((s.st i).countedBy dir v).drive.homeClosed = (s.st i).drive.homeClosed := by rw [hframe]
  have hsettings : ((s.st i).countedBy dir v).settings = (s.st i).settings := by rw [hframe]
  have hrep : ((s.st i).countedBy dir v).toSequencer = (s.st i).toSequencer := by rw [hframe]
  have takes := eventTakes_levels (i := i) h v
  have margin : EventTakes (.homeMarginSpent i) s i (s.st i).spendMargin := eventTakes_of_stationEvent h rfl
  refine ⟨fun h3 h3' n hv => ?_, fun rest t ht => exec_encoderCount_cons h i v rest ht, fun hv => ?_,
    fun n hs hn => ⟨fun hspent => ?_, fun hleft => ?_⟩, fun hno => ?_⟩
  · rw [Station.takeLevels_of_none (Drive.decode_quiet h3 h3' hv)] at takes
    exact takes.silent rfl
  · rw [Station.takeLevels_of_some (Drive.decode_count hv)] at takes
    refine ⟨fun hunmet => ?_, fun duty p sup hs hg hn hmet => ?_⟩
    · rw [Station.testCurrent_unmet fun g hg hk => hunmet g (hcur ▸ hg) hk] at takes
      refine ⟨fun hno => ?_, fun hp hdir hh => ?_⟩
      · have hstays : (if (s.st i).drive.arrives dir then ((s.st i).countedBy dir v).takeZero
            else (s.st i).countedBy dir v) = (s.st i).countedBy dir v := by
          split
          · next harr =>
            obtain ⟨hp, hheave, hopen⟩ := (Drive.arrives_iff _ _).mp harr
            rcases hno with e | e | e | ⟨e, e'⟩
            · exact absurd hp e
            · exact nomatch hheave.symm.trans e
            · exact nomatch hopen.symm.trans e
            · exact Station.takeZero_elsewhere (by rwa [hstate]) (by rwa [hstate])
          · rfl
        rw [hstays] at takes
        exact takes.silent hrep
      · rw [if_pos ((Drive.arrives_iff _ _).mpr ⟨hp, hdir, hh⟩)] at takes
        refine ⟨fun hs => ?_, fun hs hz => ?_, fun hs hz hf => ?_⟩
        · rw [Station.takeZero_heave (hstate.trans hs)] at takes
          exact takes.faulting hrep
        · rw [Station.takeZero_rewind_noMargin (hstate.trans hs) (by rwa [hsettings])] at takes
          exact takes.faulting hrep
        · rw [Station.takeZero_rewind_creeps (hstate.trans hs) (by rwa [hsettings]) (hfield.trans hf)
            (hhome.trans hh)] at takes
          refine (takes.silent hrep).mono fun t ⟨honly, ht⟩ => ⟨honly, ?_⟩
          subst hdir
          have hpay : ((s.st i).countedBy .heave v).drive.payout = some 0 := by
            rw [Station.countedBy_heave]
            simp [hp]
          have hover : ((s.st i).countedBy .heave v).drive.overrun = (s.st i).drive.overrun := by
            rw [Station.countedBy_heave]
            simp [hp]
          rw [ht, ← hsettings, ← hover]
          exact ⟨⟨rfl, rfl, rfl, rfl, rfl⟩, rfl, hpay, ⟨rfl, rfl, rfl⟩, rfl⟩
    · have hend : ((s.st i).countedBy dir v).testCurrent EndCondition.onPayout =
          ((s.st i).countedBy dir v).stopped.latch .stateReached := by
        rw [Station.testCurrent_last (hcur.trans hg) rfl hmet (by rw [hframe]; exact hn)]
        simp [Station.takeConditionEnd, Station.stopped, hstate, hs]
      have hstays : (((s.st i).countedBy dir v).stopped.latch .stateReached).takeZero =
          ((s.st i).countedBy dir v).stopped.latch .stateReached := by
        refine Station.takeZero_elsewhere (fun e => ?_) fun e => ?_
        · exact nomatch hs.symm.trans (hstate.symm.trans e)
        · exact nomatch hs.symm.trans (hstate.symm.trans e)
      rw [hend, hstays, ite_self] at takes
      refine (takes.silent hrep).mono fun t ⟨honly, ht⟩ => ⟨honly, ?_⟩
      rw [ht]
      exact ⟨⟨rfl, rfl, rfl, rfl, rfl⟩, rfl, rfl⟩
  · rw [Station.spendMargin_spent hs hn hspent] at margin
    exact margin.faulting rfl
  · rw [Station.spendMargin_left hn hleft] at margin
    exact margin.keeping
  · rw [Station.spendMargin_elsewhere hno] at margin
    exact margin.keeping

end Sys2Proof.Machine
end

section
/-! PROOF. A tension sample: formed, taken into the channel, and compared by the state of the line (chapter 3). -/

namespace Sys2Proof.Machine

/-! ### Forming a sample (R61 to R63) -/

theorem meanPeriod_cons {first last : Nat} {rest : List Nat} (h : rest.getLast? = some last) :
    meanPeriod (first :: rest) = some ((last - first) / rest.length) := by
  cases rest with
  | nil => cases h
  | cons second more =>
    have hlast : (second :: more).getLast (by simp) = last :=
      Option.some.inj ((List.getLast?_eq_some_getLast (by simp)).symm.trans h)
    rw [meanPeriod, hlast]

theorem sampleOf_valid {u : StationSettings} {edges : List Nat} {p : Nat} (h : meanPeriod edges = some p)
    (hmin : u.periodMin ≤ p) (hmax : p ≤ u.periodMax) :
    sampleOf u edges = some (min 10000 ((100000000 / p - 10 * u.f0) * u.gain / 10000)) := by
  simp only [sampleOf, h, if_pos (And.intro hmin hmax)]
  rfl

theorem sampleOf_outOfLimits {u : StationSettings} {edges : List Nat} {p : Nat} (h : meanPeriod edges = some p)
    (hout : p < u.periodMin ∨ u.periodMax < p) : sampleOf u edges = none := by
  simp only [sampleOf, h]
  exact if_neg (by omega)

/-! ### The sample taken into the channel (R64 to R66, R70) -/

/-- The channel with one sample in it, before any comparison. -/
def Station.sampledMonitor (c : Station) (edges : List Nat) : Monitor :=
  { (c.monitor.absorb c.settings.invalidLimit (sampleOf c.settings edges)).repeatFailure c.monitor c.state with
    fresh := false }

/-- The record with one sample in its channel. -/
def Station.sampled (c : Station) (edges : List Nat) : Station := { c with monitor := c.sampledMonitor edges }

theorem Monitor.repeatFailure_frame (m before : Monitor) (state : LineState) :
    m.repeatFailure before state = { m with reports := (m.repeatFailure before state).reports } := by
  unfold Monitor.repeatFailure
  split <;> rfl

theorem Monitor.absorb_frame (m : Monitor) (limit : Nat) (x : Option Nat) : m.absorb limit x = { m with
    samples := (m.absorb limit x).samples
    failed := (m.absorb limit x).failed
    invalidRun := (m.absorb limit x).invalidRun
    kept := (m.absorb limit x).kept
    reports := (m.absorb limit x).reports } := by
  unfold Monitor.absorb
  split
  · rfl
  · split <;> rfl
  · split <;> rfl
  · rfl

/-- The sample moves the list, the runs, the status, the freshness and the reports of its channel. -/
theorem Station.sampledMonitor_frame (c : Station) (edges : List Nat) : c.sampledMonitor edges = { c.monitor with
    samples := (c.monitor.absorb c.settings.invalidLimit (sampleOf c.settings edges)).samples
    failed := (c.monitor.absorb c.settings.invalidLimit (sampleOf c.settings edges)).failed
    invalidRun := (c.monitor.absorb c.settings.invalidLimit (sampleOf c.settings edges)).invalidRun
    kept := (c.monitor.absorb c.settings.invalidLimit (sampleOf c.settings edges)).kept
    fresh := false
    reports := (c.sampledMonitor edges).reports } := by
  unfold Station.sampledMonitor
  rw [Monitor.repeatFailure_frame, Monitor.absorb_frame]

section
variable {m : Monitor} {limit : Nat}

theorem Monitor.absorb_valid (h : m.failed = false) (v : Nat) : m.absorb limit (some v) =
    { m with
      samples := (if m.samples.length < 4 then m.samples else m.samples.tail) ++ [v]
      failed := false
      invalidRun := 0 } := by
  have hpush : pushSample m.samples v = (if m.samples.length < 4 then m.samples else m.samples.tail) ++ [v] :=
    (apply_ite (· ++ [v]) _ _ _).symm
  simp only [Monitor.absorb, h, hpush]

theorem Monitor.absorb_invalid (h : m.failed = false) (hl : m.invalidRun + 1 < limit) :
    m.absorb limit none = { m with failed := false, invalidRun := m.invalidRun + 1 } := by
  simp only [Monitor.absorb, h]
  rw [if_neg (by omega)]

theorem Monitor.absorb_fails (h : m.failed = false) (hl : limit ≤ m.invalidRun + 1) :
    m.absorb limit none =
      { m with samples := [], failed := true, invalidRun := 0, kept := [], reports := m.reports ++ [.sensorFailed] } := by
  simp only [Monitor.absorb, h]
  exact if_pos hl

theorem Monitor.absorb_recovers (h : m.failed = true) (hk : m.kept.length = 3) (v : Nat) :
    m.absorb limit (some v) =
      { m with samples := m.kept ++ [v], failed := false, kept := [], reports := m.reports ++ [.sensorRecovered] } := by
  simp only [Monitor.absorb, h]
  exact if_pos (by simp [hk, Config.sampleDepth])

theorem Monitor.absorb_keeps (h : m.failed = true) (hk : m.kept.length < 3) (v : Nat) :
    m.absorb limit (some v) = { m with failed := true, kept := m.kept ++ [v] } := by
  simp only [Monitor.absorb, h]
  exact if_neg (by simp only [Config.sampleDepth]; omega)

theorem Monitor.absorb_drops (h : m.failed = true) : m.absorb limit none = { m with failed := true, kept := [] } := by
  simp only [Monitor.absorb, h]

end

theorem Monitor.reports_repeatFailure (m before : Monitor) (state : LineState) :
    (m.repeatFailure before state).reports = m.reports ++
      if before.failed && m.failed && before.fresh && state.needsSensor then [.sensorFailed] else [] := by
  unfold Monitor.repeatFailure
  split <;> simp

/-- The reports of a channel's status: at most one a sample (R65, R66, R70). -/
theorem Station.reports_sampledMonitor (c : Station) (edges : List Nat) : ∃ sensor : List MonitorReport,
    (c.sampledMonitor edges).reports = c.monitor.reports ++ sensor ∧
      (sensor = [] ∨ sensor = [.sensorFailed] ∨ sensor = [.sensorRecovered]) := by
  have hreports := Monitor.reports_repeatFailure
    (c.monitor.absorb c.settings.invalidLimit (sampleOf c.settings edges)) c.monitor c.state
  rw [show (c.sampledMonitor edges).reports = _ from hreports]
  cases hf : c.monitor.failed with
  | false =>
    cases sampleOf c.settings edges with
    | some v => exact ⟨[], by simp [Monitor.absorb_valid hf], .inl rfl⟩
    | none =>
      by_cases hl : c.settings.invalidLimit ≤ c.monitor.invalidRun + 1
      · exact ⟨[.sensorFailed], by simp [Monitor.absorb_fails hf hl], .inr (.inl rfl)⟩
      · exact ⟨[], by simp [Monitor.absorb_invalid hf (Nat.lt_of_not_le hl)], .inl rfl⟩
  | true =>
    have hrepeat : (if true && true && c.monitor.fresh && c.state.needsSensor then [MonitorReport.sensorFailed] else []) =
        [] ∨ (if true && true && c.monitor.fresh && c.state.needsSensor then [MonitorReport.sensorFailed] else []) =
        [.sensorFailed] := by
      split
      · exact .inr rfl
      · exact .inl rfl
    cases sampleOf c.settings edges with
    | some v =>
      by_cases hk : c.monitor.kept.length + 1 = 4
      · exact ⟨[.sensorRecovered], by simp [Monitor.absorb_recovers hf (Nat.succ.inj hk)], .inr (.inr rfl)⟩
      · have hkeep : c.monitor.absorb c.settings.invalidLimit (some v) =
            { c.monitor with failed := true, kept := c.monitor.kept ++ [v] } := by
          simp only [Monitor.absorb, hf]
          exact if_neg hk
        rw [hkeep]
        exact ⟨_, rfl, hrepeat.imp_right .inl⟩
    | none =>
      rw [Monitor.absorb_drops hf]
      exact ⟨_, rfl, hrepeat.imp_right .inl⟩

/-- A report of the status stands in the channel after the sample. -/
theorem Station.mem_reports_sampledMonitor {c : Station} {edges : List Nat} {r : MonitorReport}
    (h : r ∈ (c.monitor.absorb c.settings.invalidLimit (sampleOf c.settings edges)).reports) :
    r ∈ (c.sampledMonitor edges).reports := by
  have hreports := Monitor.reports_repeatFailure
    (c.monitor.absorb c.settings.invalidLimit (sampleOf c.settings edges)) c.monitor c.state
  rw [show (c.sampledMonitor edges).reports = _ from hreports]
  exact List.mem_append_left _ h

/-! ### The comparisons, one by one (R53, R72 to R79) -/

/-- The record after the band compare. -/
def Station.banded (c : Station) : Station :=
  { c.compareBand with monitor := { c.compareBand.monitor with bandChanged := false } }

/-- The band compare moves the counts of its two sides, what is due of them, and the two band conditions. -/
theorem Station.banded_frame (c : Station) : c.banded = { c with
    attn := { c.attn with belowBand := c.banded.attn.belowBand, aboveBand := c.banded.attn.aboveBand }
    monitor := { c.monitor with
      below := c.banded.monitor.below
      above := c.banded.monitor.above
      belowDue := c.banded.monitor.belowDue
      aboveDue := c.banded.monitor.aboveDue
      bandChanged := false } } := by
  unfold Station.banded Station.compareBand
  split
  · dsimp only
    split
    · rfl
    · split <;> rfl
  · rfl

section
variable (c : Station)

/-- The parted count after one more sample. -/
def Station.partedCount : Nat :=
  if c.state.bandCompared then
    dwellCount (c.average.any fun a => decide (a < c.settings.partedThreshold)) c.monitor.parted
  else c.monitor.parted

/-- The parted-line report of this sample, if any. -/
def Station.partedReports : List MonitorReport :=
  if c.state.bandCompared = true ∧ c.partedCount ≠ 0 ∧ c.settings.partedDwell ≤ c.partedCount ∧
      c.monitor.partedGiven = false then
    [.parted] else []

/-- The trip count after one more sample. -/
def Station.tripCount : Nat :=
  if c.state.lockProtected then
    dwellCount (c.average.any fun a => decide (c.settings.lockTrip ≤ a)) c.monitor.trip
  else c.monitor.trip

/-- The lock trip report of this sample, if any. -/
def Station.tripReports : List MonitorReport :=
  if c.state.lockProtected = true ∧ c.tripCount ≠ 0 ∧ c.settings.tripDwell ≤ c.tripCount ∧
      c.monitor.tripGiven = false then
    [.lockTrip] else []

/-- LOCK_ALARM after this sample. -/
def Station.lockAlarmNow : Bool :=
  if c.state.lockProtected then c.average.any fun a => decide (c.settings.lockAlarm ≤ a) else c.attn.lockAlarm

/-- The clear dwell count after one more sample. -/
def Station.clearCount : Nat :=
  if c.state = .slack then
    dwellCount (c.average.any fun a => decide (a < c.settings.slackThreshold)) c.monitor.clearDwell
  else c.monitor.clearDwell

/-- The auto-clear noted after this sample. -/
def Station.clearDueNow : Bool :=
  if c.state = .slack then
    c.monitor.clearDue || (decide (c.clearCount ≠ 0) && decide (c.settings.clearDwell ≤ c.clearCount) &&
      decide (c.settings.autoClear = 1))
  else c.monitor.clearDue

/-- The record after parted-line detection, with its mark. -/
def Station.partedTaken (given : Bool) : Station :=
  { c with monitor := { c.monitor with
    parted := c.partedCount, partedGiven := given, reports := c.monitor.reports ++ c.partedReports } }

/-- The record after lock protection, with its mark. -/
def Station.tripTaken (given : Bool) : Station :=
  { c with
    attn := { c.attn with lockAlarm := c.lockAlarmNow }
    monitor := { c.monitor with
      trip := c.tripCount, tripGiven := given, reports := c.monitor.reports ++ c.tripReports } }

theorem Station.compareParted_eq : ∃ given, c.compareParted = c.partedTaken given := by
  refine ⟨c.compareParted.monitor.partedGiven, ?_⟩
  unfold Station.partedTaken
  cases h : c.state.bandCompared with
  | false => simp [Station.compareParted, Station.partedCount, Station.partedReports, h]
  | true =>
    simp only [Station.compareParted, Station.partedCount, Station.partedReports, h, if_true, true_and]
    generalize dwellCount (c.average.any fun a => decide (a < c.settings.partedThreshold)) c.monitor.parted = n
    by_cases hn : n = 0
    · simp [hn]
    · cases hg : c.monitor.partedGiven with
      | true => simp [hn]
      | false => by_cases hd : c.settings.partedDwell ≤ n <;> simp [hn, hd]

theorem Station.compareLock_eq : ∃ given, c.compareLock = c.tripTaken given := by
  refine ⟨c.compareLock.monitor.tripGiven, ?_⟩
  unfold Station.tripTaken
  cases h : c.state.lockProtected with
  | false => simp [Station.compareLock, Station.lockAlarmNow, Station.tripCount, Station.tripReports, h]
  | true =>
    simp only [Station.compareLock, Station.lockAlarmNow, Station.tripCount, Station.tripReports, h, if_true, true_and]
    generalize dwellCount (c.average.any fun a => decide (c.settings.lockTrip ≤ a)) c.monitor.trip = n
    by_cases hn : n = 0
    · simp [hn, StationAttn.put]
    · cases hg : c.monitor.tripGiven with
      | true => simp [hn, StationAttn.put]
      | false => by_cases hd : c.settings.tripDwell ≤ n <;> simp [hn, hd, StationAttn.put]

theorem Station.compareClear_eq : c.compareClear = { c with monitor := { c.monitor with
    clearDwell := c.clearCount
    clearDue := c.clearDueNow } } := by
  by_cases h : c.state = .slack <;> simp [Station.compareClear, Station.clearCount, Station.clearDueNow, h]

/-- The correction asked for at this sample, if any. -/
def Station.corrections (partedNow : Bool) : List MonitorReport :=
  if c.state = .tended ∧ c.drive.field = .opened ∧ partedNow = false then
    if c.settings.bandDwell ≤ c.monitor.below ∧ c.monitor.below ≠ 0 then [.correction .below]
    else if c.settings.bandDwell ≤ c.monitor.above ∧ c.monitor.above ≠ 0 then [.correction .above]
    else []
  else []

theorem Station.corrections_kinds (partedNow : Bool) : c.corrections partedNow = [] ∨
    c.corrections partedNow = [.correction .below] ∨ c.corrections partedNow = [.correction .above] := by
  unfold Station.corrections
  split
  · split
    · exact .inr (.inl rfl)
    · split
      · exact .inr (.inr rfl)
      · exact .inl rfl
  · exact .inl rfl

theorem Station.askCorrection_eq (partedNow : Bool) : c.askCorrection partedNow = { c with monitor := { c.monitor with
    below := if c.corrections partedNow = [.correction .below] then 0 else c.monitor.below
    above := if c.corrections partedNow = [.correction .above] then 0 else c.monitor.above
    reports := c.monitor.reports ++ c.corrections partedNow } } := by
  unfold Station.askCorrection Station.corrections
  dsimp only
  split
  · split
    · simp
    · split
      · simp
      · simp
  · simp

end

/-! ### A sample, whole (R68) -/

/-- The record after the comparisons that follow the band compare, but for the correction. -/
def Station.compared (c : Station) (partedGiven tripGiven : Bool) : Station :=
  { c with
    attn := { c.attn with lockAlarm := c.lockAlarmNow }
    monitor := { c.monitor with
      parted := c.partedCount
      partedGiven := partedGiven
      trip := c.tripCount
      tripGiven := tripGiven
      clearDwell := c.clearCount
      clearDue := c.clearDueNow
      reports := c.monitor.reports ++ c.partedReports ++ c.tripReports } }

theorem Station.compareAll_eq (c : Station) : ∃ partedGiven tripGiven,
    c.compareParted = c.partedTaken partedGiven ∧
      c.compareParted.compareLock.compareClear = c.compared partedGiven tripGiven := by
  obtain ⟨partedGiven, hparted⟩ := c.compareParted_eq
  obtain ⟨tripGiven, htrip⟩ := (c.partedTaken partedGiven).compareLock_eq
  refine ⟨partedGiven, tripGiven, hparted, ?_⟩
  rw [hparted, htrip, Station.compareClear_eq]
  rfl

/-- The record after one sample. -/
theorem Station.takeSample_eq (c : Station) (edges : List Nat) : ∃ partedGiven tripGiven,
    c.takeSample edges = ((c.sampled edges).banded.compared partedGiven tripGiven).askCorrection
      (decide ((c.sampled edges).banded.partedReports ≠ [])) := by
  obtain ⟨partedGiven, tripGiven, hparted, hall⟩ := (c.sampled edges).banded.compareAll_eq
  have hnow : decide ((c.sampled edges).banded.monitor.reports.length <
      (c.sampled edges).banded.compareParted.monitor.reports.length) =
      decide ((c.sampled edges).banded.partedReports ≠ []) := by
    rw [hparted]
    simp [Station.partedTaken, List.length_pos_iff]
  refine ⟨partedGiven, tripGiven, ?_⟩
  rw [← hall, ← hnow]
  rfl

end Sys2Proof.Machine
end

section
/-! PROOF. What TM_SAMPLE makes of its record (R61 to R68, R72 to R79, R53). -/

namespace Sys2Proof.Machine

/-! ### The record after a sample, field by field -/

/-- The record with the sample taken in and the band compared. -/
def Station.bandedSample (c : Station) (edges : List Nat) : Station := (c.sampled edges).banded

/-- The correction asked for at a sample, if any. -/
def Station.asked (x : Station) : List MonitorReport := x.corrections (decide (x.partedReports ≠ []))

/-- What the sample and the band compare leave of the record. -/
theorem Station.bandedSample_frame (c : Station) (edges : List Nat) : c.bandedSample edges = { c with
    attn := { c.attn with
      belowBand := (c.bandedSample edges).attn.belowBand
      aboveBand := (c.bandedSample edges).attn.aboveBand }
    monitor := { c.monitor with
      samples := (c.monitor.absorb c.settings.invalidLimit (sampleOf c.settings edges)).samples
      failed := (c.monitor.absorb c.settings.invalidLimit (sampleOf c.settings edges)).failed
      invalidRun := (c.monitor.absorb c.settings.invalidLimit (sampleOf c.settings edges)).invalidRun
      kept := (c.monitor.absorb c.settings.invalidLimit (sampleOf c.settings edges)).kept
      fresh := false
      reports := (c.sampledMonitor edges).reports
      below := (c.bandedSample edges).monitor.below
      above := (c.bandedSample edges).monitor.above
      belowDue := (c.bandedSample edges).monitor.belowDue
      aboveDue := (c.bandedSample edges).monitor.aboveDue
      bandChanged := false } } := by
  have hbanded := (c.sampled edges).banded_frame
  have hsampled : (c.sampled edges).monitor = _ := c.sampledMonitor_frame edges
  rw [hsampled] at hbanded
  exact hbanded

theorem Station.takeSample_fields (c : Station) (edges : List Nat) :
    (c.takeSample edges).monitor.below =
      (if (c.bandedSample edges).asked = [.correction .below] then 0 else (c.bandedSample edges).monitor.below) ∧
    (c.takeSample edges).monitor.above =
      (if (c.bandedSample edges).asked = [.correction .above] then 0 else (c.bandedSample edges).monitor.above) ∧
    (c.takeSample edges).monitor.belowDue = (c.bandedSample edges).monitor.belowDue ∧
    (c.takeSample edges).monitor.aboveDue = (c.bandedSample edges).monitor.aboveDue ∧
    (c.takeSample edges).monitor.parted = (c.bandedSample edges).partedCount ∧
    (c.takeSample edges).monitor.trip = (c.bandedSample edges).tripCount ∧
    (c.takeSample edges).monitor.clearDwell = (c.bandedSample edges).clearCount ∧
    (c.takeSample edges).monitor.clearDue = (c.bandedSample edges).clearDueNow ∧
    (c.takeSample edges).monitor.reports = (c.bandedSample edges).monitor.reports ++
      (c.bandedSample edges).partedReports ++ (c.bandedSample edges).tripReports ++ (c.bandedSample edges).asked ∧
    (c.takeSample edges).attn =
      { (c.bandedSample edges).attn with lockAlarm := (c.bandedSample edges).lockAlarmNow } ∧
    (c.takeSample edges).average = (c.bandedSample edges).average := by
  obtain ⟨partedGiven, tripGiven, heq⟩ := c.takeSample_eq edges
  rw [heq, Station.askCorrection_eq]
  exact ⟨rfl, rfl, rfl, rfl, rfl, rfl, rfl, rfl, rfl, rfl, rfl⟩

/-- The sample list, the runs and the status of the channel, which no comparison moves. -/
theorem Station.takeSample_sensor (c : Station) (edges : List Nat) :
    (c.takeSample edges).monitor.samples =
      (c.monitor.absorb c.settings.invalidLimit (sampleOf c.settings edges)).samples ∧
    (c.takeSample edges).monitor.failed =
      (c.monitor.absorb c.settings.invalidLimit (sampleOf c.settings edges)).failed ∧
    (c.takeSample edges).monitor.invalidRun =
      (c.monitor.absorb c.settings.invalidLimit (sampleOf c.settings edges)).invalidRun ∧
    (c.takeSample edges).monitor.kept =
      (c.monitor.absorb c.settings.invalidLimit (sampleOf c.settings edges)).kept := by
  obtain ⟨partedGiven, tripGiven, heq⟩ := c.takeSample_eq edges
  rw [heq, Station.askCorrection_eq, show (c.sampled edges).banded = _ from c.bandedSample_frame edges]
  exact ⟨rfl, rfl, rfl, rfl⟩

/-- A report of the status stands in the channel after the sample. -/
theorem Station.mem_reports_takeSample {c : Station} {edges : List Nat} {r : MonitorReport}
    (h : r ∈ (c.monitor.absorb c.settings.invalidLimit (sampleOf c.settings edges)).reports) :
    r ∈ (c.takeSample edges).monitor.reports := by
  obtain ⟨-, -, -, -, -, -, -, -, hreports, -⟩ := c.takeSample_fields edges
  have hx : (c.bandedSample edges).monitor.reports = (c.sampledMonitor edges).reports := by
    rw [c.bandedSample_frame]
  rw [hreports, hx]
  simp [Station.mem_reports_sampledMonitor h]

theorem eventTakes_tmSample {s : State} (h : s.inReset = false) (i : StationId) (edges : List Nat) :
    Completes (.tmSample i edges) s fun t => s.OnlyStation t i ∧ t.st i = (s.st i).takeSample edges := by
  have takes : EventTakes (.tmSample i edges) s i ((s.st i).takeSample edges) :=
    eventTakes_of_stationEvent (g := fun c => c.takeSample edges) h rfl
  refine takes.silent ?_
  rw [(s.st i).onlyChannel_takeSample edges]

/-- Settles O43: the mean period first, then the channel by its status and the sample. -/
theorem aSampleEntersTheListAndMovesTheSensorStatus : Obligations.ASampleEntersTheListAndMovesTheSensorStatus := by
  refine ⟨fun u first last rest hlast => ⟨fun hmin hmax => sampleOf_valid (meanPeriod_cons hlast) hmin hmax,
    fun hout => sampleOf_outOfLimits (meanPeriod_cons hlast) hout, rfl, rfl⟩, fun i edges s h => ?_⟩
  refine (eventTakes_tmSample h i edges).mono fun t ⟨honly, ht⟩ => ⟨honly, ?_⟩
  rw [ht]
  obtain ⟨hsamples, hfailed, hrun, hkept⟩ := (s.st i).takeSample_sensor edges
  have hmem : ∀ r, r ∈ ((s.st i).monitor.absorb (s.st i).settings.invalidLimit
      (sampleOf (s.st i).settings edges)).reports → r ∈ ((s.st i).takeSample edges).monitor.reports :=
    fun r => Station.mem_reports_takeSample
  refine ⟨(s.st i).onlyChannel_takeSample edges, fun k hb ha hl => ?_, fun hf => ⟨fun v hv => ?_, fun hv =>
    ⟨fun hlim => ?_, fun hlim => ?_⟩⟩, fun hf => ⟨fun v hv => ⟨fun hk => ?_, fun hk => ?_⟩, fun hv => ?_⟩⟩
  · obtain ⟨-, -, -, -, -, -, -, -, -, hattn, -⟩ := (s.st i).takeSample_fields edges
    rw [hattn, (s.st i).bandedSample_frame edges]
    cases k with
    | belowBand => exact absurd rfl hb
    | aboveBand => exact absurd rfl ha
    | lockAlarm => exact absurd rfl hl
    | _ => rfl
  all_goals rw [hv] at hsamples hfailed hrun hkept hmem
  · rw [Monitor.absorb_valid hf] at hsamples hfailed hrun
    exact ⟨hsamples, hfailed, hrun⟩
  · rw [Monitor.absorb_invalid hf hlim] at hsamples hfailed hrun
    exact ⟨hsamples, hfailed, hrun⟩
  · rw [Monitor.absorb_fails hf hlim] at hsamples hfailed hrun hkept hmem
    exact ⟨hsamples, hfailed, hrun, hkept, hmem _ (by simp)⟩
  · rw [Monitor.absorb_recovers hf hk] at hsamples hfailed hkept hmem
    exact ⟨hsamples, hfailed, hkept, hmem _ (by simp)⟩
  · rw [Monitor.absorb_keeps hf hk] at hsamples hfailed hkept
    exact ⟨hsamples, hfailed, hkept⟩
  · rw [Monitor.absorb_drops hf] at hsamples hfailed hkept
    exact ⟨hsamples, hfailed, hkept⟩

/-! ### The band compare by where the average lies (R72, R73, R76) -/

/-- The below count that a sample goes on from. -/
def Station.belowBefore (c : Station) : Nat := if c.monitor.bandChanged then 0 else c.monitor.below

/-- The above count that a sample goes on from. -/
def Station.aboveBefore (c : Station) : Nat := if c.monitor.bandChanged then 0 else c.monitor.above

section
variable {c : Station}

theorem Station.banded_elsewhere (h : c.state.bandCompared = false) :
    c.banded = { c with monitor := { c.monitor with bandChanged := false } } := by
  simp [Station.banded, Station.compareBand, h]

variable (h : c.state.bandCompared = true)
include h

theorem Station.banded_noAverage (ha : c.average = none) : c.banded.monitor.below = 0 ∧ c.banded.monitor.above = 0 := by
  simp [Station.banded, Station.compareBand, h, ha]

variable {a : Nat} {b : Band} (ha : c.average = some a) (hb : c.band = some b)
include ha hb

theorem Station.banded_inBand (hlow : b.low ≤ a) (hhigh : a ≤ b.high) :
    c.banded.monitor.below = 0 ∧ c.banded.monitor.above = 0 ∧ c.banded.attn.belowBand = false ∧
      c.banded.attn.aboveBand = false := by
  simp [Station.banded, Station.compareBand, Station.bandOr, h, ha, hb, hlow, hhigh, Station.withdraw, StationAttn.put]

theorem Station.banded_outside (hout : ¬(b.low ≤ a ∧ a ≤ b.high)) :
    c.banded = { c with monitor := { c.monitor with
      bandChanged := false
      below := dwellCount (decide (a < b.low)) c.belowBefore
      above := dwellCount (decide (b.high < a)) c.aboveBefore
      belowDue := c.monitor.belowDue ||
        (decide (c.settings.bandDwell ≤ dwellCount (decide (a < b.low)) c.belowBefore) && !c.attn.belowBand)
      aboveDue := c.monitor.aboveDue ||
        (decide (c.settings.bandDwell ≤ dwellCount (decide (b.high < a)) c.aboveBefore) && !c.attn.aboveBand) } } := by
  simp only [Station.banded, Station.compareBand, Station.bandOr, h, ha, hb, if_true, Option.getD_some, if_neg hout,
    Station.belowBefore, Station.aboveBefore]
  rfl

end

theorem dwellCount_true (n : Nat) : dwellCount true n = min 65535 (n + 1) := rfl

theorem dwellCount_ne_zero (n : Nat) : min 65535 (n + 1) ≠ 0 := by omega

/-! ### The corrections asked for (R74) -/

section
variable {c : Station} {partedNow : Bool}

theorem Station.corrections_below (hs : c.state = .tended) (hf : c.drive.field = .opened)
    (hd : c.settings.bandDwell ≤ c.monitor.below) (hn : c.monitor.below ≠ 0) :
    c.corrections false = [.correction .below] := by
  simp [Station.corrections, hs, hf, hd, hn]

theorem Station.corrections_above (hs : c.state = .tended) (hf : c.drive.field = .opened)
    (hb : c.monitor.below = 0) (hd : c.settings.bandDwell ≤ c.monitor.above) (hn : c.monitor.above ≠ 0) :
    c.corrections false = [.correction .above] := by
  simp [Station.corrections, hs, hf, hb, hd, hn]

theorem Station.corrections_ne_below (h : c.state ≠ .tended ∨ c.drive.field ≠ .opened ∨
    c.monitor.below < c.settings.bandDwell ∨ c.monitor.below = 0) :
    c.corrections partedNow ≠ [.correction .below] := by
  unfold Station.corrections
  split
  · next hc =>
    obtain ⟨hs, hf, -⟩ := hc
    have hno : ¬(c.settings.bandDwell ≤ c.monitor.below ∧ c.monitor.below ≠ 0) := by
      rcases h with h | h | h | h
      · exact absurd hs h
      · exact absurd hf h
      · omega
      · omega
    rw [if_neg hno]
    split <;> simp
  · simp

theorem Station.corrections_ne_above (h : c.state ≠ .tended ∨ c.drive.field ≠ .opened ∨
    c.monitor.above < c.settings.bandDwell ∨ c.monitor.above = 0) :
    c.corrections partedNow ≠ [.correction .above] := by
  unfold Station.corrections
  split
  · next hc =>
    obtain ⟨hs, hf, -⟩ := hc
    have hno : ¬(c.settings.bandDwell ≤ c.monitor.above ∧ c.monitor.above ≠ 0) := by
      rcases h with h | h | h | h
      · exact absurd hs h
      · exact absurd hf h
      · omega
      · omega
    rw [if_neg hno]
    split <;> simp
  · simp

theorem Station.partedReports_eq_nil (h : MonitorReport.parted ∉ c.partedReports) : c.partedReports = [] := by
  unfold Station.partedReports at h ⊢
  split
  · next hp => simp [if_pos hp] at h
  · rfl

end

/-! ### What the comparisons of a sample read (R68) -/

section
variable (c : Station) (edges : List Nat)

/-- The record that the comparisons read is the one before the sample, but for the sample itself. -/
theorem Station.bandedSample_reads :
    (c.bandedSample edges).state = c.state ∧ (c.bandedSample edges).drive = c.drive ∧
      (c.bandedSample edges).settings = c.settings ∧
      (c.bandedSample edges).average = (c.sampled edges).average ∧
      (c.bandedSample edges).monitor.reports = (c.sampledMonitor edges).reports := by
  refine ⟨?_, ?_, ?_, ?_, ?_⟩
  · rw [c.bandedSample_frame edges]
  · rw [c.bandedSample_frame edges]
  · rw [c.bandedSample_frame edges]
  · rw [Station.bandedSample, (c.sampled edges).banded_frame]
    rfl
  · rw [c.bandedSample_frame edges]

theorem Station.belowBefore_sampled : (c.sampled edges).belowBefore = c.belowBefore := by
  unfold Station.belowBefore
  rw [show (c.sampled edges).monitor = _ from c.sampledMonitor_frame edges]

theorem Station.aboveBefore_sampled : (c.sampled edges).aboveBefore = c.aboveBefore := by
  unfold Station.aboveBefore
  rw [show (c.sampled edges).monitor = _ from c.sampledMonitor_frame edges]

theorem Station.dues_sampled : (c.sampled edges).monitor.belowDue = c.monitor.belowDue ∧
    (c.sampled edges).monitor.aboveDue = c.monitor.aboveDue ∧ (c.sampled edges).monitor.below = c.monitor.below ∧
    (c.sampled edges).monitor.above = c.monitor.above := by
  rw [show (c.sampled edges).monitor = _ from c.sampledMonitor_frame edges]
  exact ⟨rfl, rfl, rfl, rfl⟩

/-- The parted count and its report after a sample (R77). -/
theorem Station.takeSample_parted :
    (c.takeSample edges).monitor.parted =
      (if c.state.bandCompared then
        dwellCount ((c.takeSample edges).average.any fun a => decide (a < c.settings.partedThreshold)) c.monitor.parted
      else c.monitor.parted) ∧
    (c.bandedSample edges).partedReports =
      if c.state.bandCompared = true ∧ (c.takeSample edges).monitor.parted ≠ 0 ∧
          c.settings.partedDwell ≤ (c.takeSample edges).monitor.parted ∧ c.monitor.partedGiven = false then
        [.parted] else [] := by
  obtain ⟨-, -, -, -, hparted, -, -, -, -, -, haverage⟩ := c.takeSample_fields edges
  obtain ⟨hstate, -, hsettings, -⟩ := c.bandedSample_reads edges
  have hcount : (c.bandedSample edges).monitor.parted = c.monitor.parted := by rw [c.bandedSample_frame edges]
  have hgiven : (c.bandedSample edges).monitor.partedGiven = c.monitor.partedGiven := by rw [c.bandedSample_frame edges]
  rw [hparted, haverage]
  constructor
  · rw [Station.partedCount, hstate, hsettings, hcount]
  · rw [Station.partedReports, hstate, hsettings, hgiven]

/-- The trip count, its report and LOCK_ALARM after a sample (R78, R79). -/
theorem Station.takeSample_lock :
    (c.takeSample edges).monitor.trip =
      (if c.state.lockProtected then
        dwellCount ((c.takeSample edges).average.any fun a => decide (c.settings.lockTrip ≤ a)) c.monitor.trip
      else c.monitor.trip) ∧
    (c.bandedSample edges).tripReports =
      (if c.state.lockProtected = true ∧ (c.takeSample edges).monitor.trip ≠ 0 ∧
          c.settings.tripDwell ≤ (c.takeSample edges).monitor.trip ∧ c.monitor.tripGiven = false then
        [.lockTrip] else []) ∧
    (c.takeSample edges).attn.lockAlarm =
      if c.state.lockProtected then (c.takeSample edges).average.any fun a => decide (c.settings.lockAlarm ≤ a)
      else c.attn.lockAlarm := by
  obtain ⟨-, -, -, -, -, htrip, -, -, -, hattn, haverage⟩ := c.takeSample_fields edges
  obtain ⟨hstate, -, hsettings, -⟩ := c.bandedSample_reads edges
  have hcount : (c.bandedSample edges).monitor.trip = c.monitor.trip := by rw [c.bandedSample_frame edges]
  have hgiven : (c.bandedSample edges).monitor.tripGiven = c.monitor.tripGiven := by rw [c.bandedSample_frame edges]
  have halarm : (c.bandedSample edges).attn.lockAlarm = c.attn.lockAlarm := by rw [c.bandedSample_frame edges]
  rw [htrip, haverage, hattn]
  refine ⟨?_, ?_, ?_⟩
  · rw [Station.tripCount, hstate, hsettings, hcount]
  · rw [Station.tripReports, hstate, hsettings, hgiven]
  · dsimp only
    rw [Station.lockAlarmNow, hstate, hsettings, halarm]

/-- The clear dwell count and the auto-clear noted after a sample (R53). -/
theorem Station.takeSample_clear :
    (c.takeSample edges).monitor.clearDwell =
      (if c.state = .slack then
        dwellCount ((c.takeSample edges).average.any fun a => decide (a < c.settings.slackThreshold))
          c.monitor.clearDwell
      else c.monitor.clearDwell) ∧
    (c.takeSample edges).monitor.clearDue =
      if c.state = .slack then
        c.monitor.clearDue || (decide ((c.takeSample edges).monitor.clearDwell ≠ 0) &&
          decide (c.settings.clearDwell ≤ (c.takeSample edges).monitor.clearDwell) &&
          decide (c.settings.autoClear = 1))
      else c.monitor.clearDue := by
  obtain ⟨-, -, -, -, -, -, hclear, hdue, -, -, haverage⟩ := c.takeSample_fields edges
  obtain ⟨hstate, -, hsettings, -⟩ := c.bandedSample_reads edges
  have hcount : (c.bandedSample edges).monitor.clearDwell = c.monitor.clearDwell := by rw [c.bandedSample_frame edges]
  have hbefore : (c.bandedSample edges).monitor.clearDue = c.monitor.clearDue := by rw [c.bandedSample_frame edges]
  rw [hclear, hdue, haverage]
  constructor
  · rw [Station.clearCount, hstate, hsettings, hcount]
  · rw [Station.clearDueNow, hstate, hsettings, hbefore]

/-- The average after the sample is the one that the comparisons read. -/
theorem Station.average_sampled {a : Option Nat} (ha : (c.takeSample edges).average = a) :
    (c.sampled edges).average = a := by
  obtain ⟨-, -, -, -, -, -, -, -, -, -, haverage⟩ := c.takeSample_fields edges
  obtain ⟨-, -, -, hsampled, -⟩ := c.bandedSample_reads edges
  rw [← hsampled, ← haverage, ha]

end

/-! ### The counts of the band, whole -/

section
variable {c : Station} {edges : List Nat}

/-- Without a band compare the counts and the band conditions stay. -/
theorem Station.takeSample_notCompared (h : c.state.bandCompared = false) :
    (c.takeSample edges).monitor.below = c.monitor.below ∧ (c.takeSample edges).monitor.above = c.monitor.above ∧
      (c.takeSample edges).attn.belowBand = c.attn.belowBand ∧
      (c.takeSample edges).attn.aboveBand = c.attn.aboveBand := by
  obtain ⟨hbelow, habove, -, -, -, -, -, -, -, hattn, -⟩ := c.takeSample_fields edges
  obtain ⟨-, -, hbefore, habefore⟩ := c.dues_sampled edges
  have hstate : (c.bandedSample edges).state ≠ .tended := by
    rw [(c.bandedSample_reads edges).1]
    rintro hs
    rw [hs] at h
    cases h
  have hx : c.bandedSample edges = _ := Station.banded_elsewhere (c := c.sampled edges) h
  have hnoBelow : (c.bandedSample edges).asked ≠ [.correction .below] := Station.corrections_ne_below (.inl hstate)
  have hnoAbove : (c.bandedSample edges).asked ≠ [.correction .above] := Station.corrections_ne_above (.inl hstate)
  rw [hbelow, habove, hattn, if_neg hnoBelow, if_neg hnoAbove, hx]
  exact ⟨hbefore, habefore, rfl, rfl⟩

/-- With both counts at 0 no correction is asked for, and they stay so. -/
theorem Station.takeSample_zero (hb : (c.bandedSample edges).monitor.below = 0)
    (ha : (c.bandedSample edges).monitor.above = 0) :
    (c.takeSample edges).monitor.below = 0 ∧ (c.takeSample edges).monitor.above = 0 := by
  obtain ⟨hbelow, habove, -⟩ := c.takeSample_fields edges
  rw [hbelow, habove, hb, ha, ite_self, ite_self]
  exact ⟨rfl, rfl⟩

variable (h : c.state.bandCompared = true)
include h

theorem Station.takeSample_noAverage (ha : (c.takeSample edges).average = none) :
    (c.takeSample edges).monitor.below = 0 ∧ (c.takeSample edges).monitor.above = 0 := by
  obtain ⟨hb, hab⟩ := Station.banded_noAverage (c := c.sampled edges) h (c.average_sampled edges ha)
  exact Station.takeSample_zero hb hab

variable {a : Nat} {b : Band} (ha : (c.takeSample edges).average = some a) (hb : c.band = some b)
include ha hb

theorem Station.takeSample_inBand (hlow : b.low ≤ a) (hhigh : a ≤ b.high) :
    (c.takeSample edges).monitor.below = 0 ∧ (c.takeSample edges).monitor.above = 0 ∧
      (c.takeSample edges).attn.belowBand = false ∧ (c.takeSample edges).attn.aboveBand = false := by
  obtain ⟨-, -, -, -, -, -, -, -, -, hattn, -⟩ := c.takeSample_fields edges
  obtain ⟨hbelow, habove, hbelowBand, haboveBand⟩ :=
    Station.banded_inBand (c := c.sampled edges) h (c.average_sampled edges ha) hb hlow hhigh
  obtain ⟨hb0, ha0⟩ := Station.takeSample_zero hbelow habove
  rw [hattn]
  exact ⟨hb0, ha0, hbelowBand, haboveBand⟩

/-- The record that the correction is asked of, out of band. -/
theorem Station.bandedSample_outside (hout : ¬(b.low ≤ a ∧ a ≤ b.high)) :
    (c.bandedSample edges).monitor.below = dwellCount (decide (a < b.low)) c.belowBefore ∧
      (c.bandedSample edges).monitor.above = dwellCount (decide (b.high < a)) c.aboveBefore ∧
      (c.bandedSample edges).monitor.belowDue = (c.monitor.belowDue ||
        (decide (c.settings.bandDwell ≤ dwellCount (decide (a < b.low)) c.belowBefore) && !c.attn.belowBand)) ∧
      (c.bandedSample edges).monitor.aboveDue = (c.monitor.aboveDue ||
        (decide (c.settings.bandDwell ≤ dwellCount (decide (b.high < a)) c.aboveBefore) && !c.attn.aboveBand)) ∧
      (c.takeSample edges).attn = { c.attn with lockAlarm := (c.takeSample edges).attn.lockAlarm } := by
  obtain ⟨-, -, -, -, -, -, -, -, -, hattn, -⟩ := c.takeSample_fields edges
  obtain ⟨hbelowDue, haboveDue, -, -⟩ := c.dues_sampled edges
  have hx : c.bandedSample edges = _ :=
    Station.banded_outside (c := c.sampled edges) h (c.average_sampled edges ha) hb hout
  rw [Station.belowBefore_sampled, Station.aboveBefore_sampled, hbelowDue, haboveDue] at hx
  rw [hattn]
  refine ⟨?_, ?_, ?_, ?_, ?_⟩
  · rw [hx]
  · rw [hx]
  · rw [hx]
    rfl
  · rw [hx]
    rfl
  · rw [hx]
    rfl

/-- Below the band (R72 to R74). -/
theorem Station.takeSample_below (hlow : a < b.low) (hvalid : b.valid = true) :
    (c.takeSample edges).monitor.above = 0 ∧
      (c.takeSample edges).attn = { c.attn with lockAlarm := (c.takeSample edges).attn.lockAlarm } ∧
      ((c.takeSample edges).monitor.belowDue = (c.monitor.belowDue ||
        (decide (c.settings.bandDwell ≤ min 65535 (c.belowBefore + 1)) && !c.attn.belowBand))) ∧
      (MonitorReport.parted ∉ (c.takeSample edges).monitor.reports → c.state = .tended → c.drive.field = .opened →
        c.settings.bandDwell ≤ min 65535 (c.belowBefore + 1) →
        (c.takeSample edges).monitor.below = 0 ∧
          (c.takeSample edges).monitor.reports.getLast? = some (MonitorReport.correction .below)) ∧
      (c.state = .locked ∨ c.drive.field ≠ .opened ∨ min 65535 (c.belowBefore + 1) < c.settings.bandDwell →
        (c.takeSample edges).monitor.below = min 65535 (c.belowBefore + 1)) := by
  obtain ⟨hbelow, habove, hbelowDue, -, -, -, -, -, hreports, -⟩ := c.takeSample_fields edges
  obtain ⟨hstate, hdrive, hsettings, -⟩ := c.bandedSample_reads edges
  have hhigh : ¬b.high < a := by
    obtain ⟨-, hgap, -⟩ := (Band.valid_iff b).mp hvalid
    omega
  obtain ⟨hb', ha', hdue, -, hattn⟩ := Station.bandedSample_outside (edges := edges) h ha hb (fun e => by omega)
  rw [decide_eq_true hlow, dwellCount_true] at hb' hdue
  rw [decide_eq_false hhigh, show dwellCount false c.aboveBefore = 0 from rfl] at ha'
  refine ⟨?_, hattn, hbelowDue.trans hdue, fun hparted hs hf hd => ?_, fun hno => ?_⟩
  · rw [habove, ha', ite_self]
  · rw [hreports] at hparted ⊢
    have hnone : (c.bandedSample edges).partedReports = [] :=
      Station.partedReports_eq_nil fun hm => hparted (by simp [hm])
    have hasked : (c.bandedSample edges).asked = [.correction .below] := by
      rw [Station.asked, hnone]
      exact Station.corrections_below (hstate.trans hs) (by rw [hdrive, hf]) (by rwa [hsettings, hb'])
        (by rw [hb']; exact dwellCount_ne_zero _)
    rw [hbelow, hasked, if_pos rfl, List.getLast?_append]
    exact ⟨rfl, rfl⟩
  · have hasked : (c.bandedSample edges).asked ≠ [.correction .below] := by
      refine Station.corrections_ne_below ?_
      rw [hstate, hdrive, hsettings, hb']
      rcases hno with hs | hf | hd
      · exact .inl fun e => nomatch hs.symm.trans e
      · exact .inr (.inl hf)
      · exact .inr (.inr (.inl hd))
    rw [hbelow, if_neg hasked, hb']

/-- Above the band (R72 to R74). -/
theorem Station.takeSample_above (hhigh : b.high < a) (hvalid : b.valid = true) :
    (c.takeSample edges).monitor.below = 0 ∧
      (c.takeSample edges).attn = { c.attn with lockAlarm := (c.takeSample edges).attn.lockAlarm } ∧
      ((c.takeSample edges).monitor.aboveDue = (c.monitor.aboveDue ||
        (decide (c.settings.bandDwell ≤ min 65535 (c.aboveBefore + 1)) && !c.attn.aboveBand))) ∧
      (MonitorReport.parted ∉ (c.takeSample edges).monitor.reports → c.state = .tended → c.drive.field = .opened →
        c.settings.bandDwell ≤ min 65535 (c.aboveBefore + 1) →
        (c.takeSample edges).monitor.above = 0 ∧
          (c.takeSample edges).monitor.reports.getLast? = some (MonitorReport.correction .above)) ∧
      (c.state = .locked ∨ c.drive.field ≠ .opened ∨ min 65535 (c.aboveBefore + 1) < c.settings.bandDwell →
        (c.takeSample edges).monitor.above = min 65535 (c.aboveBefore + 1)) := by
  obtain ⟨hbelow, habove, -, haboveDue, -, -, -, -, hreports, -⟩ := c.takeSample_fields edges
  obtain ⟨hstate, hdrive, hsettings, -⟩ := c.bandedSample_reads edges
  have hlow : ¬a < b.low := by
    obtain ⟨-, hgap, -⟩ := (Band.valid_iff b).mp hvalid
    omega
  obtain ⟨hb', ha', -, hdue, hattn⟩ := Station.bandedSample_outside (edges := edges) h ha hb (fun e => by omega)
  rw [decide_eq_true hhigh, dwellCount_true] at ha' hdue
  rw [decide_eq_false hlow, show dwellCount false c.belowBefore = 0 from rfl] at hb'
  refine ⟨?_, hattn, haboveDue.trans hdue, fun hparted hs hf hd => ?_, fun hno => ?_⟩
  · rw [hbelow, hb', ite_self]
  · rw [hreports] at hparted ⊢
    have hnone : (c.bandedSample edges).partedReports = [] :=
      Station.partedReports_eq_nil fun hm => hparted (by simp [hm])
    have hasked : (c.bandedSample edges).asked = [.correction .above] := by
      rw [Station.asked, hnone]
      exact Station.corrections_above (hstate.trans hs) (by rw [hdrive, hf]) hb' (by rwa [hsettings, ha'])
        (by rw [ha']; exact dwellCount_ne_zero _)
    rw [habove, hasked, if_pos rfl, List.getLast?_append]
    exact ⟨rfl, rfl⟩
  · have hasked : (c.bandedSample edges).asked ≠ [.correction .above] := by
      refine Station.corrections_ne_above ?_
      rw [hstate, hdrive, hsettings, ha']
      rcases hno with hs | hf | hd
      · exact .inl fun e => nomatch hs.symm.trans e
      · exact .inr (.inl hf)
      · exact .inr (.inr (.inl hd))
    rw [habove, if_neg hasked, ha']

end

/-- Settles O44: each comparison by the state of the line, then the new reports in their order. -/
theorem aSampleIsComparedByTheStateOfTheLine : Obligations.ASampleIsComparedByTheStateOfTheLine := by
  intro i edges s h
  refine (eventTakes_tmSample h i edges).mono fun t ⟨_, ht⟩ => ?_
  rw [ht]
  obtain ⟨hparted, hpartedReports⟩ := (s.st i).takeSample_parted edges
  obtain ⟨htrip, htripReports, halarm⟩ := (s.st i).takeSample_lock edges
  obtain ⟨hclear, hclearDue⟩ := (s.st i).takeSample_clear edges
  refine ⟨fun hc => ?_, fun hl => ?_, fun hs => ?_, fun hc => ⟨fun ha => ?_, fun a ha b hb hvalid below hbelow above
    habove => ⟨?_, fun hlow hhigh => Station.takeSample_inBand hc ha hb hlow hhigh, fun hlow => ?_, fun hhigh => ?_⟩⟩,
    fun hl => ?_, fun hs => ?_, ?_⟩
  · obtain ⟨hb, ha, hbelowBand, haboveBand⟩ := Station.takeSample_notCompared (edges := edges) hc
    exact ⟨hb, ha, hparted.trans (if_neg (by simp [hc])), hbelowBand, haboveBand⟩
  · exact ⟨htrip.trans (if_neg (by simp [hl])), halarm.trans (if_neg (by simp [hl]))⟩
  · exact ⟨hclear.trans (if_neg hs), hclearDue.trans (if_neg hs)⟩
  · obtain ⟨hb0, ha0⟩ := Station.takeSample_noAverage hc ha
    refine ⟨hb0, ha0, ?_⟩
    rw [hparted, if_pos hc, ha]
    rfl
  · rw [hparted, if_pos hc, ha]
    simp [dwellCount, Config.countMax]
  · subst hbelow
    exact Station.takeSample_below hc ha hb hlow hvalid
  · subst habove
    exact Station.takeSample_above hc ha hb hhigh hvalid
  · exact ⟨halarm.trans (if_pos hl), htrip.trans (if_pos hl)⟩
  · exact ⟨hclear.trans (if_pos hs), hclearDue.trans (if_pos hs)⟩
  · obtain ⟨sensor, hsensor, hkinds⟩ := (s.st i).reports_sampledMonitor edges
    obtain ⟨-, -, -, -, -, -, -, -, hreports, -⟩ := (s.st i).takeSample_fields edges
    obtain ⟨-, -, -, -, hbefore⟩ := (s.st i).bandedSample_reads edges
    refine ⟨sensor, ((s.st i).bandedSample edges).partedReports, ((s.st i).bandedSample edges).tripReports,
      ((s.st i).bandedSample edges).asked, ?_, hkinds, hpartedReports, htripReports,
      Station.corrections_kinds _ _⟩
    rw [hreports, hbefore, hsensor]
    simp only [List.append_assoc]

end Sys2Proof.Machine
end

section
/-! PROOF. Requests of the host to the attention sets and the link status flags (R167 to R173, R189). -/

namespace Sys2Proof.Machine

/-! ### A host request that is not decided by one record alone -/

/-- The host request `c`, with `n` payload bytes, comes to `r`: the part made and the answer. -/
def HostComes (c : Instr) (s : State) (n : Nat) (r : State × Answer) : Prop :=
  exec c s = .next (r.1.shoreAnswer (n + 4) false r.2)

section
variable {c : Instr} {s : State} {n : Nat} {r : State × Answer} (h : HostComes c s n r)
include h

theorem HostComes.answering {u : State} {status : Status} {payload : List Byte} (hr : r = (u, ⟨status, payload⟩))
    (hu : u.shore = s.shore) (hp : status.ofPort = false) :
    Completes c s fun t => s.Answers t n status payload ∧ u.OnlyPort t := by
  subst hr
  refine ⟨_, h, ?_, u.onlyPort_shoreAnswer _ _ _⟩
  rw [State.Answers, hp, State.AnswersAfter, State.shore_shoreAnswer, hu]

theorem HostComes.reading {status : Status} {payload : List Byte} (hr : r = (s, ⟨status, payload⟩))
    (hp : status.ofPort = false) : Completes c s fun t => s.OnlyPort t ∧ s.Answers t n status payload :=
  (h.answering hr rfl hp).mono fun _ ⟨ha, hport⟩ => ⟨hport, ha⟩

theorem HostComes.refusing {status : Status} (hr : r = (s, refusal status)) (hp : status.ofPort = false) :
    Completes c s fun t => s.Refuses t n status :=
  h.reading hr hp

end

section
variable {s u t : State} (h : u.OnlyPort t)
include h

theorem State.OnlyPort.st_eq (i : StationId) : t.st i = u.st i := h.1 i rfl

theorem State.OnlyPort.face_eq (f : Face) : t.face f = u.face f := h.2.1 f rfl

theorem State.OnlyPort.keepsDevice (k : s.KeepsDevice u) : s.KeepsDevice t := by
  obtain ⟨hp, hr, hu, ho⟩ := h.2.2
  obtain ⟨kp, kr, ku, ko⟩ := k
  exact ⟨hp.trans kp, hr.trans kr, hu.trans ku, ho.trans ko⟩

theorem State.OnlyPort.keepsFaces {p : Face → Bool} (k : s.KeepsFaces u p) : s.KeepsFaces t p :=
  fun f hf => (h.face_eq f).trans (k f hf)

theorem State.OnlyPort.onlyFaceAndPort {f : Face} (k : s.OnlyFaceAndPort u f) : s.OnlyFaceAndPort t f := by
  obtain ⟨ks, kf, kd⟩ := k
  exact ⟨fun i hi => (h.st_eq i).trans (ks i hi), h.keepsFaces kf, h.keepsDevice kd⟩

theorem State.OnlyPort.onlyStationAndPort {i : StationId} (k : s.OnlyStationAndPort u i) : s.OnlyStationAndPort t i := by
  obtain ⟨ks, kf, kd⟩ := k
  exact ⟨fun j hj => (h.st_eq j).trans (ks j hj), h.keepsFaces kf, h.keepsDevice kd⟩

end

/-- A host request that changes one face. -/
theorem HostComes.onFace {c : Instr} {s : State} {n : Nat} {r : State × Answer} (h : HostComes c s n r) {f : Face}
    {g : FaceState → FaceState} {status : Status} {payload : List Byte} (hr : r = (s.onFace f g, ⟨status, payload⟩))
    (hp : status.ofPort = false) :
    Completes c s fun t => s.OnlyFaceAndPort t f ∧ s.Answers t n status payload ∧ t.face f = g (s.face f) :=
  (h.answering hr (State.shore_onFace _ _ _) hp).mono fun _ ⟨ha, hport⟩ =>
    ⟨hport.onlyFaceAndPort (s.onlyFace_onFace f g).1, ha, (hport.face_eq f).trans (State.face_onFace_same _ _ _)⟩

/-- The same, of one record. -/
theorem HostComes.setSt {c : Instr} {s : State} {n : Nat} {r : State × Answer} (h : HostComes c s n r) {i : StationId}
    {d : Station} {status : Status} {payload : List Byte} (hr : r = (s.setSt i d, ⟨status, payload⟩))
    (hp : status.ofPort = false) :
    Completes c s fun t => s.OnlyStationAndPort t i ∧ s.Answers t n status payload ∧ t.st i = d := by
  refine (h.answering hr (State.shore_setSt _ _ _) hp).mono fun _ ⟨ha, hport⟩ =>
    ⟨hport.onlyStationAndPort ⟨fun j hj => ?_, fun f _ => State.face_setSt _ _ _ f, ?_⟩, ha,
      (hport.st_eq i).trans (State.st_setSt_same _ _ _)⟩
  · exact State.st_setSt_ne _ _ (by simpa using hj)
  · simp [State.KeepsDevice]

/-! ### Acknowledgement (R172, R173) -/

theorem StationCondition.ofCode_of_le {b : Byte} (h : b.toNat ≤ 8) :
    ∃ k, StationCondition.ofCode b = some k ∧ k.code = b.toNat := by
  have hall : ∀ n : Fin 9, (StationCondition.all.find? fun k => decide (k.code = n.val)).isSome = true := by decide
  obtain ⟨k, hk⟩ := Option.isSome_iff_exists.mp (hall ⟨b.toNat, by omega⟩)
  exact ⟨k, hk, of_decide_eq_true (List.find?_some (p := fun k => decide (StationCondition.code k = b.toNat)) hk)⟩

theorem StationCondition.code_le (k : StationCondition) : k.code ≤ 8 := by cases k <;> decide

theorem StationCondition.ofCode_of_gt {b : Byte} (h : 8 < b.toNat) : StationCondition.ofCode b = none := by
  refine List.find?_eq_none.mpr fun k _ hk => ?_
  have hcode : k.code = b.toNat := of_decide_eq_true hk
  have hle := k.code_le
  omega

theorem FaceCondition.ofCode_of_le {b : Byte} (h : b.toNat ≤ 3) :
    ∃ k, FaceCondition.ofCode b = some k ∧ k.code = b.toNat := by
  have hall : ∀ n : Fin 4, (FaceCondition.all.find? fun k => decide (k.code = n.val)).isSome = true := by decide
  obtain ⟨k, hk⟩ := Option.isSome_iff_exists.mp (hall ⟨b.toNat, by omega⟩)
  exact ⟨k, hk, of_decide_eq_true (List.find?_some (p := fun k => decide (FaceCondition.code k = b.toNat)) hk)⟩

theorem FaceCondition.code_le (k : FaceCondition) : k.code ≤ 3 := by cases k <;> decide

theorem FaceCondition.ofCode_of_gt {b : Byte} (h : 3 < b.toNat) : FaceCondition.ofCode b = none := by
  refine List.find?_eq_none.mpr fun k _ hk => ?_
  have hcode : k.code = b.toNat := of_decide_eq_true hk
  have hle := k.code_le
  omega

/-- Codes that all name conditions are read, each as the condition of its code. -/
theorem readCodes_all {α : Type} {read : Byte → Option α} {code : α → Nat} {codes : List Byte}
    (h : ∀ b ∈ codes, ∃ k, read b = some k ∧ code k = b.toNat) :
    ∃ named, readCodes read codes = some named ∧ named.map code = codes.map BitVec.toNat := by
  induction codes with
  | nil => exact ⟨[], rfl, rfl⟩
  | cons b rest ih =>
    obtain ⟨k, hk, hcode⟩ := h b List.mem_cons_self
    obtain ⟨named, hn, hmap⟩ := ih fun x hx => h x (List.mem_cons_of_mem _ hx)
    exact ⟨k :: named, by simp only [readCodes, hk, hn], by simp [hcode, hmap]⟩

theorem readCodes_none {α : Type} {read : Byte → Option α} {codes : List Byte} (h : ∃ b ∈ codes, read b = none) :
    readCodes read codes = none := by
  induction codes with
  | nil => simp at h
  | cons b rest ih =>
    obtain ⟨x, hx, hr⟩ := h
    unfold readCodes
    rcases List.mem_cons.mp hx with rfl | hx
    · simp [hr]
    · cases hb : read b <;> simp [ih ⟨x, hx, hr⟩]

theorem StationAttn.has_acknowledge (a : StationAttn) (named : List StationCondition) (k : StationCondition) :
    (a.acknowledge named).has k = (a.has k && !(k.isLatch && named.any fun j => decide (j = k))) := by
  induction named generalizing a with
  | nil => simp [StationAttn.acknowledge]
  | cons j rest ih =>
    refine (ih _).trans ?_
    by_cases hk : j = k
    · subst hk
      cases hl : j.isLatch <;> simp [hl]
    · cases hl : j.isLatch <;> simp [hl, hk, StationAttn.has_put_ne _ _ (Ne.symm hk)]

theorem FaceAttn.has_acknowledge (a : FaceAttn) (named : List FaceCondition) (k : FaceCondition) :
    (a.acknowledge named).has k = (a.has k && !(k.isLatch && named.any fun j => decide (j = k))) := by
  induction named generalizing a with
  | nil => simp [FaceAttn.acknowledge]
  | cons j rest ih =>
    refine (ih _).trans ?_
    by_cases hk : j = k
    · subst hk
      cases hl : j.isLatch <;> simp [hl]
    · cases hl : j.isLatch <;> simp [hl, hk, FaceAttn.has_put_ne _ _ (Ne.symm hk)]

theorem StationCondition.code_inj {j k : StationCondition} : j.code = k.code ↔ j = k := by
  cases j <;> cases k <;> simp [StationCondition.code]

theorem FaceCondition.code_inj {j k : FaceCondition} : j.code = k.code ↔ j = k := by
  cases j <;> cases k <;> simp [FaceCondition.code]

/-- Naming a condition among the codes read is naming its code. -/
theorem any_of_map_code {α : Type} [DecidableEq α] {code : α → Nat} (hinj : ∀ {j k}, code j = code k ↔ j = k)
    {named : List α} {codes : List Byte} (h : named.map code = codes.map BitVec.toNat) (k : α) :
    (named.any fun j => decide (j = k)) = codes.any fun b => decide (b.toNat = code k) := by
  have hleft : (named.any fun j => decide (j = k)) = (named.map code).any fun n => decide (n = code k) := by
    rw [List.any_map]
    exact congrArg named.any (funext fun j => by simp [hinj])
  rw [hleft, h, List.any_map]
  rfl

/-- What ACK_ATTENTION comes to. -/
def State.acknowledged (s : State) (codes : List Byte) : Scoped → State × Answer
  | .station i =>
    match readCodes StationCondition.ofCode codes with
    | none => (s, refusal .badValue)
    | some named => (s.setSt i { s.st i with attn := (s.st i).attn.acknowledge named },
        attentionAnswer 0 (natByte i.val) ((s.st i).attn.acknowledge named).bits)
  | .face f =>
    match readCodes FaceCondition.ofCode codes with
    | none => (s, refusal .badValue)
    | some named => (s.onFace f fun x => { x with attn := (s.face f).attn.acknowledge named },
        attentionAnswer 1 (faceCode f) ((s.face f).attn.acknowledge named).bits)
  | .device | .other _ _ => (s, refusal .badValue)

theorem hostComes_ackAttention {s : State} (h : s.HostReady) (target : Scoped) (codes : List Byte) :
    HostComes (.ackAttention target codes) s (1 + codes.length) (s.acknowledged codes target) := by
  have hcome : exec (.ackAttention target codes) s =
      .next ((s.acknowledged codes target).1.shoreAnswer (codes.length + 1 + 4) false (s.acknowledged codes target).2) := by
    dsimp only [exec, execAckAttention]
    refine (hostRequest_ready h (i := .ackAttention target codes) rfl _).trans ?_
    cases target <;> rfl
  rwa [HostComes, Nat.add_comm 1]

/-- What READ_ATTENTION answers. -/
def State.attentionShown (s : State) : Scoped → Answer
  | .station i => attentionAnswer 0 (natByte i.val) (s.st i).attn.bits
  | .face f => attentionAnswer 1 (faceCode f) (s.face f).attn.bits
  | .device | .other _ _ => refusal .badValue

theorem hostComes_readAttention {s : State} (h : s.HostReady) (target : Scoped) :
    HostComes (.readAttention target) s 1 (s, s.attentionShown target) := by
  dsimp only [HostComes, exec, execReadAttention]
  refine (hostRequest_ready h (i := .readAttention target) rfl _).trans ?_
  cases target <;> rfl

/-- Settles O39: the codes read are those named, and acknowledging them clears those of them that are latches. -/
theorem acknowledgementClearsTheNamedLatchesAlone : Obligations.AcknowledgementClearsTheNamedLatchesAlone := by
  intro i f codes scope target s h
  refine ⟨fun hall => ?_, fun hall => ?_, fun ⟨b, hb, hgt⟩ => ?_, fun ⟨b, hb, hgt⟩ => ?_, ?_, ?_⟩
  · obtain ⟨named, hn, hmap⟩ := readCodes_all fun b hb => StationCondition.ofCode_of_le (hall b hb)
    have hcome := (hostComes_ackAttention h (.station i) codes).setSt (i := i)
      (d := { s.st i with attn := (s.st i).attn.acknowledge named }) (status := .ok)
      (payload := [0, natByte i.val] ++ natBytes ((s.st i).attn.acknowledge named).bits)
      (by simp only [State.acknowledged, hn, attentionAnswer]) rfl
    refine hcome.mono fun t ⟨honly, hans, hst⟩ => ?_
    rw [hst]
    refine ⟨honly, hans, rfl, fun k => ?_⟩
    rw [StationAttn.has_acknowledge, any_of_map_code StationCondition.code_inj hmap]
  · obtain ⟨named, hn, hmap⟩ := readCodes_all fun b hb => FaceCondition.ofCode_of_le (hall b hb)
    have hcome := (hostComes_ackAttention h (.face f) codes).onFace (f := f)
      (g := fun x => { x with attn := (s.face f).attn.acknowledge named }) (status := .ok)
      (payload := [1, faceCode f] ++ natBytes ((s.face f).attn.acknowledge named).bits)
      (by simp only [State.acknowledged, hn, attentionAnswer]) rfl
    refine hcome.mono fun t ⟨honly, hans, hface⟩ => ?_
    rw [hface]
    refine ⟨honly, hans, rfl, fun k => ?_⟩
    rw [FaceAttn.has_acknowledge, any_of_map_code FaceCondition.code_inj hmap]
  · have hnone := readCodes_none ⟨b, hb, StationCondition.ofCode_of_gt hgt⟩
    exact (hostComes_ackAttention h (.station i) codes).refusing (by simp only [State.acknowledged, hnone]) rfl
  · have hnone := readCodes_none ⟨b, hb, FaceCondition.ofCode_of_gt hgt⟩
    exact (hostComes_ackAttention h (.face f) codes).refusing (by simp only [State.acknowledged, hnone]) rfl
  · exact (hostComes_ackAttention h (.other scope target) codes).refusing rfl rfl
  · exact (hostComes_readAttention h (.other scope target)).refusing rfl rfl

/-! ### The link status flags (R167, R189) -/

theorem LinkFlags.byte_reads (l : LinkFlags) : l.byte.toNat < 16 ∧ l.byte.getLsbD 0 = l.frameError ∧
    l.byte.getLsbD 1 = l.outsideWindow ∧ l.byte.getLsbD 2 = l.tagMismatch ∧ l.byte.getLsbD 3 = l.noGrant := by
  obtain ⟨frameError, outsideWindow, tagMismatch, noGrant⟩ := l
  revert frameError outsideWindow tagMismatch noGrant
  decide

theorem hostComes_clearLinkStatus {s : State} (h : s.HostReady) (f : Face) (set : Byte) :
    HostComes (.clearLinkStatus f set) s 1
      (if 16 ≤ set.toNat then (s, refusal .badValue)
        else (s.onFace f fun x => x.withFlags ((s.face f).link.flags.clear set),
          ⟨.ok, [((s.face f).link.flags.clear set).byte]⟩)) := by
  dsimp only [HostComes, exec, execClearLinkStatus]
  exact hostRequest_ready h (i := .clearLinkStatus f set) rfl _

/-- Settles O41: the flags left, the byte that shows them, and LINK_ERROR by them. -/
theorem clearLinkStatusClearsTheNamedFlags : Obligations.ClearLinkStatusClearsTheNamedFlags := by
  intro f set s h
  have hcome := hostComes_clearLinkStatus h f set
  refine ⟨fun hset => ?_, fun hset => hcome.refusing (if_pos hset) rfl⟩
  refine (hcome.onFace (if_neg (by omega)) rfl).mono fun t ⟨honly, hans, hface⟩ => ?_
  obtain ⟨hlt, h0, h1, h2, h3⟩ := ((s.face f).link.flags.clear set).byte_reads
  rw [hface]
  exact ⟨honly, rfl, rfl, rfl, rfl, rfl, _, hans, hlt, h0, h1, h2, h3⟩

end Sys2Proof.Machine
end

section
/-! PROOF. Windows and grants of the berth faces, and the emergency action on a face (R106 to R110, R138 to R147). -/

namespace Sys2Proof.Machine

/-! ### What a face's own plan steps leave -/

/-- Nothing but one face and the reports of lines differs. -/
def State.OnlyPlan (s t : State) (f : Face) : Prop := s.SameLines t ∧ ∀ g, g ≠ f → t.face g = s.face g

theorem State.OnlyPlan.refl (s : State) (f : Face) : s.OnlyPlan s f := ⟨.refl s, fun _ _ => rfl⟩

theorem State.OnlyPlan.trans {s t u : State} {f : Face} (h : s.OnlyPlan t f) (k : t.OnlyPlan u f) : s.OnlyPlan u f :=
  ⟨h.1.trans k.1, fun g hg => (k.2 g hg).trans (h.2 g hg)⟩

theorem State.onlyPlan_onFace (s : State) (f : Face) (g : FaceState → FaceState) : s.OnlyPlan (s.onFace f g) f :=
  ⟨s.sameLines_onFace f g, fun _ hg => s.face_onFace_ne g hg⟩

theorem State.onlyPlan_onSeq (s : State) (f : Face) (g : Sequencer → Sequencer) : s.OnlyPlan (s.onSeq f g) f :=
  s.onlyPlan_onFace f _

@[simp] theorem State.face_dropReports (s : State) (f g : Face) : (s.dropReports f).face g = s.face g :=
  State.face_mapStations _ _ _ _

theorem State.onlyPlan_dropReports (s : State) (f : Face) : s.OnlyPlan (s.dropReports f) f :=
  ⟨s.sameLines_dropReports f, fun g _ => s.face_dropReports f g⟩

/-- A host request that changes a face and reports of its lines. -/
theorem HostComes.onlyPlan {c : Instr} {s : State} {n : Nat} {r : State × Answer} (h : HostComes c s n r) {f : Face}
    {u : State} {status : Status} {payload : List Byte} (hr : r = (u, ⟨status, payload⟩)) (hu : s.OnlyPlan u f)
    (hp : status.ofPort = false) :
    Completes c s fun t =>
      s.Answers t n status payload ∧ s.KeepsFaces t (fun g => decide (g = f)) ∧ s.KeepsDevice t ∧
        (∀ i, t.st i = { s.st i with toSequencer := (t.st i).toSequencer }) ∧ t.face f = u.face f := by
  obtain ⟨⟨hst, hshore, hdevice⟩, hface⟩ := hu
  refine (h.answering hr hshore hp).mono fun t ⟨ha, hport⟩ =>
    ⟨ha, hport.keepsFaces fun g hg => hface g (by simpa using hg), hport.keepsDevice hdevice, fun i => ?_,
      hport.face_eq f⟩
  rw [hport.st_eq i]
  exact hst i

/-! ### SET_WINDOW (R106, R107) -/

theorem windowOperand_none {base limit : Byte} (h : ¬(base = 0xFF ∧ limit = 0xFF))
    (hbad : limit.toNat < base.toNat ∨ 23 < limit.toNat ∨ 16 < limit.toNat - base.toNat + 1) :
    windowOperand base limit = none := by
  unfold windowOperand
  have hconfig : Config.windowMax = 16 := rfl
  rw [if_neg h, dif_neg (by omega)]

theorem windowOperand_window {w : Window} (h : w.Valid) :
    windowOperand (natByte w.base.val) (natByte w.limit.val) = some (some w) := by
  obtain ⟨hle, hsize⟩ := h
  have hb : (natByte w.base.val).toNat = w.base.val := toNat_natByte (by omega)
  have hl : (natByte w.limit.val).toNat = w.limit.val := toNat_natByte (by omega)
  have hff : ¬(natByte w.base.val = 0xFF ∧ natByte w.limit.val = 0xFF) := fun hb' => by
    have h255 := congrArg BitVec.toNat hb'.1
    rw [hb] at h255
    have hlt := w.base.isLt
    simp at h255
    omega
  unfold windowOperand
  rw [if_neg hff, dif_pos (by rw [hb, hl]; exact ⟨hle, w.limit.isLt, hsize⟩)]
  simp only [hb, hl]

theorem windowsMeet_iff {v w : Option Window} :
    windowsMeet v w = true ↔ ∃ i, inWindow v i = true ∧ inWindow w i = true := by
  simp [windowsMeet, mem_allStations]

/-- What SET_WINDOW comes to, by the window its operand names. -/
def State.windowSet (s : State) (f : Face) : Option (Option Window) → State × Answer
  | none => (s, refusal .badValue)
  | some w =>
    if (s.face f).grant ≠ .vacant then (s, refusal .wrongState)
    else if ¬(s.windowAll (s.face f).window Station.atRest && s.windowAll w Station.atRest) then (s, refusal .wrongState)
    else if windowsMeet w (s.face (otherFace f)).window then (s, refusal .badValue)
    else (s.putWindow f w, ⟨.ok, []⟩)

theorem hostComes_setWindow {s : State} (h : s.HostReady) (f : Face) (base limit : Byte) :
    HostComes (.setWindow f base limit) s 2 (s.windowSet f (windowOperand base limit)) := by
  dsimp only [HostComes, exec, execSetWindow]
  refine (hostRequest_ready h (i := .setWindow f base limit) rfl _).trans ?_
  cases windowOperand base limit <;> rfl

theorem State.onlyPlan_putWindow (s : State) (f : Face) (w : Option Window) : s.OnlyPlan (s.putWindow f w) f :=
  ((s.onlyPlan_dropReports f).trans (State.onlyPlan_onFace _ f _)).trans (State.onlyPlan_dropReports _ f)

theorem State.face_putWindow (s : State) (f : Face) (w : Option Window) : (s.putWindow f w).face f =
    { s.face f with window := w, sequencer := (s.face f).sequencer.emptied } := by
  unfold State.putWindow
  simp

/-- Settles O28: the operand's window, the checks in their order, and the window put. -/
theorem setWindowReplacesTheWindowAndEmptiesThePlan : Obligations.SetWindowReplacesTheWindowAndEmptiesThePlan := by
  refine ⟨fun f base limit s h hff hbad => ?_, fun f base limit w s h hw => ?_⟩
  · exact (hostComes_setWindow h f base limit).refusing (by rw [windowOperand_none hff hbad]; rfl) rfl
  have hoperand : windowOperand base limit = some w := by
    rcases hw with ⟨rfl, rfl, rfl⟩ | ⟨x, rfl, hx, rfl, rfl⟩
    · rfl
    · exact windowOperand_window hx
  have hcome := hostComes_setWindow h f base limit
  rw [hoperand] at hcome
  refine ⟨fun hg hold hnew hapart => ?_, fun hg => hcome.refusing (if_pos hg) rfl, fun hg hbusy => ?_,
    fun hg hold hnew hmeet => ?_⟩
  · have hmeet : windowsMeet w (s.face (otherFace f)).window = false :=
      Bool.eq_false_iff.mpr fun hm => by
        obtain ⟨i, hi, ho⟩ := windowsMeet_iff.mp hm
        exact absurd ho (by simp [hapart i hi])
    have hr : s.windowSet f (some w) = (s.putWindow f w, ⟨.ok, []⟩) := by simp [State.windowSet, hg, hold, hnew, hmeet]
    refine (hcome.onlyPlan hr (s.onlyPlan_putWindow f w) rfl).mono fun t ⟨ha, hf, hd, hst, hface⟩ => ?_
    rw [State.face_putWindow] at hface
    simp only [State.seq, hface]
    exact ⟨ha, hf, hd, hst, trivial, rfl, rfl, rfl, rfl, rfl⟩
  · refine hcome.refusing ?_ rfl
    rcases hbusy with hb | hb <;> simp [State.windowSet, hg, hb]
  · exact hcome.refusing (by simp [State.windowSet, hg, hold, hnew, windowsMeet_iff.mpr hmeet]) rfl

/-! ### ARRIVE, SECURE and VACATE (R108 to R110) -/

/-- What ARRIVE comes to. -/
def State.arrived (s : State) (f : Face) (tag : Half) : State × Answer :=
  if (s.face f).grant ≠ .vacant then (s, refusal .wrongState)
  else if tag = 0 ∨ tag = (s.face (otherFace f)).tag then (s, refusal .badValue)
  else if (s.face f).window = none then (s, refusal .wrongState)
  else if (s.face f).erActive then (s, refusal .emergency)
  else if ¬s.windowAll (s.face f).window Station.atRest then (s, refusal .notStowed)
  else (s.onFace f fun x => { x with grant := .approach, tag := tag }, ⟨.ok, []⟩)

theorem hostComes_arrive {s : State} (h : s.HostReady) (f : Face) (tag : Half) :
    HostComes (.arrive f tag) s 2 (s.arrived f tag) := by
  dsimp only [HostComes, exec, execArrive]
  exact hostRequest_ready h (i := .arrive f tag) rfl _

/-- What SECURE comes to. -/
def State.secured (s : State) (f : Face) : State × Answer :=
  if (s.face f).grant = .approach ∧ (s.face f).settings.minimumLines ≤ s.securedCount f then
    (s.onFace f fun x => { x with grant := .moored }, ⟨.ok, [natByte (s.securedCount f)]⟩)
  else (s, ⟨.wrongState, [natByte (s.securedCount f)]⟩)

theorem hostComes_secure {s : State} (h : s.HostReady) (f : Face) : HostComes (.secure f) s 0 (s.secured f) := by
  dsimp only [HostComes, exec, execSecure]
  exact hostRequest_ready h (i := .secure f) rfl _

/-- What VACATE comes to. -/
def State.vacateTaken (s : State) (f : Face) : State × Answer :=
  if ¬((s.face f).grant = .approach ∨ (s.face f).grant = .cleared) then (s, refusal .wrongState)
  else if ¬s.windowAll (s.face f).window fun c => decide (c.state = .stowed) then (s, refusal .notStowed)
  else (s.vacated f, ⟨.ok, []⟩)

theorem hostComes_vacate {s : State} (h : s.HostReady) (f : Face) : HostComes (.vacate f) s 0 (s.vacateTaken f) := by
  dsimp only [HostComes, exec, execVacate]
  exact hostRequest_ready h (i := .vacate f) rfl _

theorem State.onlyPlan_takePlanReportsTo (s : State) (f : Face) (left : Nat) :
    s.OnlyPlan (s.takePlanReportsTo f left) f := by
  unfold State.takePlanReportsTo
  dsimp only
  split
  · exact (s.onlyPlan_onFace f _).trans (State.onlyPlan_dropReports _ f)
  · exact s.onlyPlan_onFace f _

theorem State.onlyPlan_takePlanReports (s : State) (f : Face) : s.OnlyPlan (s.takePlanReports f) f := by
  unfold State.takePlanReports
  split
  · exact .refl s f
  · exact s.onlyPlan_takePlanReportsTo f 0

/-- All reports taken of a face: its sequencer is frozen where one stood. -/
theorem State.face_takePlanReports_eq (s : State) (f : Face) : (s.takePlanReports f).face f = { s.face f with
    planReports := 0
    sequencer := if (s.face f).planReports = 0 then (s.face f).sequencer else (s.face f).sequencer.frozen } := by
  unfold State.takePlanReports
  split
  · next hn => rw [← hn]
  · exact s.face_takePlanReportsTo f 0

/-- The part with no release claim left at the records of the face's window. -/
def State.claimless (s : State) (f : Face) : State :=
  s.mapStations (inWindow (s.face f).window) fun c => { c with releaseClaims := 0 }

theorem State.vacated_eq (s : State) (f : Face) :
    s.vacated f = ((s.claimless f).takePlanReports f).onFace f fun x => { x with grant := .vacant, tag := 0 } := rfl

theorem State.face_claimless (s : State) (f g : Face) : (s.claimless f).face g = s.face g := State.face_mapStations _ _ _ _

theorem State.st_claimless (s : State) (f : Face) (i : StationId) :
    (s.claimless f).st i = { s.st i with releaseClaims := ((s.claimless f).st i).releaseClaims } := by
  rw [State.claimless, State.st_mapStations]
  split <;> rfl

theorem State.face_vacated (s : State) (f : Face) : (s.vacated f).face f = { s.face f with
    planReports := 0
    sequencer := if (s.face f).planReports = 0 then (s.face f).sequencer else (s.face f).sequencer.frozen
    grant := .vacant
    tag := 0 } := by
  rw [State.vacated_eq, State.face_onFace_same, State.face_takePlanReports_eq, State.face_claimless]

theorem State.onlyPlan_vacated (s : State) (f : Face) : (s.claimless f).OnlyPlan (s.vacated f) f :=
  (State.onlyPlan_takePlanReports _ f).trans (State.onlyPlan_onFace _ f _)

theorem State.keepsDevice_claimless (s : State) (f : Face) : s.KeepsDevice (s.claimless f) := by
  simp [State.KeepsDevice, State.claimless]

theorem State.shore_claimless (s : State) (f : Face) : (s.claimless f).shore = s.shore := State.shore_mapStations _ _ _

theorem State.KeepsDevice.trans {s t u : State} (h : s.KeepsDevice t) (k : t.KeepsDevice u) : s.KeepsDevice u := by
  obtain ⟨hp, hr, hu, ho⟩ := h
  obtain ⟨kp, kr, ku, ko⟩ := k
  exact ⟨kp.trans hp, kr.trans hr, ku.trans hu, ko.trans ho⟩

/-- The accepted VACATE. -/
theorem hostComes_vacated {s : State} (h : s.HostReady) {f : Face} (hr : s.vacateTaken f = (s.vacated f, ⟨.ok, []⟩)) :
    Completes (.vacate f) s fun t =>
      s.Answers t 0 .ok [] ∧ s.KeepsFaces t (fun g => decide (g = f)) ∧ s.KeepsDevice t ∧
        t.face f = (s.vacated f).face f ∧
        ∀ i, t.st i = { s.st i with releaseClaims := (t.st i).releaseClaims, toSequencer := (t.st i).toSequencer } := by
  obtain ⟨⟨hst, hshore, hdevice⟩, hface⟩ := s.onlyPlan_vacated f
  refine ((hostComes_vacate h f).answering hr (hshore.trans (s.shore_claimless f)) rfl).mono fun t ⟨ha, hport⟩ =>
    ⟨ha, hport.keepsFaces fun g hg => ?_, hport.keepsDevice ((s.keepsDevice_claimless f).trans hdevice),
      hport.face_eq f, fun i => ?_⟩
  · exact (hface g (by simpa using hg)).trans (s.face_claimless f g)
  · rw [hport.st_eq i, hst i, s.st_claimless f i]

/-- Settles O29: each grant change by its checks in their order. -/
theorem arriveSecureAndVacateChangeTheGrant : Obligations.ArriveSecureAndVacateChangeTheGrant := by
  intro f tag s h
  have ha := hostComes_arrive h f tag
  have hs := hostComes_secure h f
  have hv := hostComes_vacate h f
  have own (h0 : tag ≠ 0) (ho : tag ≠ (s.face (otherFace f)).tag) : ¬(tag = 0 ∨ tag = (s.face (otherFace f)).tag) :=
    fun ht => ht.elim h0 ho
  refine ⟨fun hg h0 ho hw her hrest => ?_, fun hg h0 ho hw her => ?_, fun hg => ha.refusing (if_pos hg) rfl,
    fun hg ht => ?_, fun hg h0 ho hw => ?_, fun hg h0 ho hw her hrest => ?_, fun hg hmin => ?_, fun hno => ?_,
    fun hg => ⟨fun hall => ?_, fun hall => ?_⟩, fun hg => ?_⟩
  · refine ha.onFace (g := fun x => { x with grant := .approach, tag := tag }) ?_ rfl
    rw [State.arrived, if_neg (not_not_intro hg), if_neg (own h0 ho), if_neg hw, if_neg (by simp [her]),
      if_neg (not_not_intro hrest)]
  · refine ha.refusing ?_ rfl
    rw [State.arrived, if_neg (not_not_intro hg), if_neg (own h0 ho), if_neg hw, if_pos her]
  · refine ha.refusing ?_ rfl
    rw [State.arrived, if_neg (not_not_intro hg), if_pos ht]
  · refine ha.refusing ?_ rfl
    rw [State.arrived, if_neg (not_not_intro hg), if_neg (own h0 ho), if_pos hw]
  · refine ha.refusing ?_ rfl
    rw [State.arrived, if_neg (not_not_intro hg), if_neg (own h0 ho), if_neg hw, if_neg (by simp [her]),
      if_pos (by simp [hrest])]
  · exact hs.onFace (if_pos ⟨hg, hmin⟩) rfl
  · exact hs.reading (if_neg fun hyes => hno.elim (· hyes.1) fun hlt => absurd hyes.2 (by omega)) rfl
  · refine (hostComes_vacated h (by simp [State.vacateTaken, hg, hall])).mono fun t ⟨hans, hf, hd, hface, hst⟩ => ?_
    rw [State.face_vacated] at hface
    simp only [State.seq, hface]
    exact ⟨hans, hf, hd, trivial, trivial, trivial, trivial, trivial, trivial, trivial, fun h0 => if_pos h0, hst⟩
  · exact hv.refusing (by simp [State.vacateTaken, hg, hall]) rfl
  · refine hv.refusing ?_ rfl
    rcases hg with hg | hg | hg <;> simp [State.vacateTaken, hg]

end Sys2Proof.Machine
end

section
/-! PROOF. The emergency action on a face, and the ship frames that its controller refuses (R11, R12, R115, R116, R138 to
R147, R188). -/

namespace Sys2Proof.Machine

/-! ### The emergency action (R138, R141 to R143, R147) -/

theorem GrantState.emergency_eq (g : GrantState) : g.emergency = if g = .vacant then .vacant else .cleared := by
  cases g <;> rfl

theorem State.face_emergencyAction (s : State) (f : Face) : (s.emergencyAction f).face f = { s.face f with
    grant := if (s.face f).grant = .vacant then .vacant else .cleared
    planReports := (s.face f).planReports + 1
    attn := (s.face f).attn.put .emergency true } := by
  simp [State.emergencyAction, State.latchFace, GrantState.emergency_eq]

theorem State.face_emergencyAction_ne (s : State) {f g : Face} (h : g ≠ f) :
    (s.emergencyAction f).face g = s.face g := by
  simp [State.emergencyAction, State.latchFace, h]

theorem State.st_emergencyAction (s : State) (f : Face) (i : StationId) : (s.emergencyAction f).st i = { s.st i with
    releaseClaims := (s.st i).releaseClaims + if inWindow (s.face f).window i then 1 else 0 } := by
  simp only [State.emergencyAction, State.latchFace, State.st_onFace, State.st_mapStations, State.face_onFace_same]
  split <;> rfl

theorem State.device_emergencyAction (s : State) (f : Face) :
    s.KeepsDevice (s.emergencyAction f) ∧ (s.emergencyAction f).shore = s.shore := by
  simp [State.KeepsDevice, State.emergencyAction, State.latchFace]

theorem State.emergencyAction_keepsFaces (s : State) (f : Face) :
    s.KeepsFaces (s.emergencyAction f) fun g => decide (g = f) :=
  fun _ hg => s.face_emergencyAction_ne (by simpa using hg)

theorem hostComes_emergencyRelease {s : State} (h : s.HostReady) (f : Face) :
    HostComes (.emergencyRelease f) s 0 (s.emergencyAction f, ⟨.accepted, [(s.face f).grant.code]⟩) := by
  dsimp only [HostComes, exec, execEmergencyRelease]
  exact hostRequest_ready h (i := .emergencyRelease f) rfl _

theorem exec_erActivation {s : State} (h : s.inReset = false) (f : Face) :
    exec (.erActivation f) s = .next (if (s.face f).erActive then s else s.activateEr f) := by
  dsimp only [exec, execErActivation]
  exact live_running h _

theorem exec_erDeactivation {s : State} (h : s.inReset = false) (f : Face) :
    exec (.erDeactivation f) s = .next (s.onFace f fun x => { x with erActive := false }) := by
  dsimp only [exec, execErDeactivation]
  exact live_running h _

theorem exec_emergencyPlanReport {s : State} (h : s.inReset = false) (f : Face) :
    exec (.emergencyPlanReport f) s = .next (if (s.face f).planReports = 0 then s
      else s.takePlanReportsTo f ((s.face f).planReports - 1)) := by
  dsimp only [exec, execEmergencyPlanReport]
  exact live_running h _

theorem Sequencer.frozen_inactive {q : Sequencer} (h : q.active = false) : q.frozen = q := by
  simp [Sequencer.frozen, h]

theorem Sequencer.frozen_active {q : Sequencer} (h : q.active = true) : q.frozen.state = .idle ∧
    q.frozen.cursor = q.cursor ∧ q.frozen.entries = q.entries.map fun e => { e with timer := none } := by
  rw [Sequencer.frozen, if_pos h]
  exact ⟨rfl, rfl, rfl⟩

/-- Settles O37: the action on the face, and what freezes its plan. -/
theorem theEmergencyActionClearsTheFace : Obligations.TheEmergencyActionClearsTheFace := by
  intro f s hr
  refine ⟨fun h => ?_, fun her => ?_, fun her => ?_, ?_, fun hn => ?_⟩
  · obtain ⟨hdevice, hshore⟩ := s.device_emergencyAction f
    exact ((hostComes_emergencyRelease h f).answering rfl hshore rfl).mono fun t ⟨ha, hport⟩ =>
      ⟨ha, hport.keepsFaces (s.emergencyAction_keepsFaces f), hport.keepsDevice hdevice,
        (hport.face_eq f).trans (s.face_emergencyAction f), fun i => (hport.st_eq i).trans (s.st_emergencyAction f i)⟩
  · have hst := (s.onFace f fun x => { x with erActive := true }).st_emergencyAction f
    have hface := (s.onFace f fun x => { x with erActive := true }).face_emergencyAction f
    obtain ⟨hdevice, hshore⟩ := (s.onFace f fun x => { x with erActive := true }).device_emergencyAction f
    refine ⟨s.activateEr f, (exec_erActivation hr f).trans (by rw [if_neg (by simp [her])]), fun g hg => ?_,
      (State.onlyFace_onFace s f _).1.2.2.trans hdevice, hshore.trans (State.shore_onFace _ _ _), hface.trans ?_,
      fun i => (hst i).trans ?_⟩
    · have hg : g ≠ f := by simpa using hg
      exact (State.face_emergencyAction_ne _ hg).trans (State.face_onFace_ne s _ hg)
    · rw [State.face_onFace_same]
    · rw [State.st_onFace, State.face_onFace_same]
  · exact ⟨s, (exec_erActivation hr f).trans (by rw [if_pos her]), rfl⟩
  · exact ⟨_, exec_erDeactivation hr f, State.onlyFace_onFace s f _, State.face_onFace_same _ _ _⟩
  · obtain ⟨⟨hst, hshore, hdevice⟩, hother⟩ := s.onlyPlan_takePlanReportsTo f ((s.face f).planReports - 1)
    have hface := s.face_takePlanReportsTo f ((s.face f).planReports - 1)
    refine ⟨_, (exec_emergencyPlanReport hr f).trans (by rw [if_neg (by omega)]), fun g hg => hother g (by simpa using hg),
      hdevice, hshore, hst, ?_, fun hq => ?_, fun hq => ?_⟩
    · rw [State.seq, hface]
    · rw [State.seq, hface]
      exact Sequencer.frozen_inactive hq
    · rw [State.seq, hface]
      exact Sequencer.frozen_active hq

/-! ### Ship frames that the face controller refuses (R11, R12, R115, R116, R188) -/

theorem FaceState.access_vacant {x : FaceState} (h : x.grant = .vacant) (mooring : Bool) (tag : Half) :
    x.access mooring tag = some (.noGrant, some .noGrant) := if_pos h

theorem FaceState.access_otherTag {x : FaceState} (h : x.grant ≠ .vacant) (mooring : Bool) {tag : Half} (ht : tag ≠ x.tag) :
    x.access mooring tag = some (.tagMismatch, some .tagMismatch) := by
  rw [FaceState.access, if_neg h, if_pos ht]

theorem FaceState.access_unmoored {x : FaceState} (h : x.grant = .departing ∨ x.grant = .cleared) {tag : Half}
    (ht : tag = x.tag) : x.access true tag = some (.wrongState, none) := by
  rw [FaceState.access, if_neg (by rcases h with h | h <;> simp [h]), if_neg (not_not_intro ht), if_pos ⟨rfl, h⟩]

theorem State.access_leaveFrame (s : State) (f : Face) (mooring : Bool) (tag : Half) :
    ((s.leaveFrame f).face f).access mooring tag = (s.face f).access mooring tag := by
  rw [State.face_leaveFrame]
  rfl

/-- A frame that the access check refuses. -/
theorem shipFrame_refused {s : State} {f : Face} {tag : Half} {mooring : Bool} {r : AccessRefusal}
    (hr : s.inReset = false) (hrx : (s.face f).link.rx.holdsFrame = true)
    (ha : (s.face f).access mooring tag = some r) (k : State → Except AccessRefusal (State × Answer)) :
    shipFrame f tag mooring k s = .next ((s.leaveFrame f).refuseShip f tag r) := by
  rw [shipFrame, live_running hr]
  simp only [hrx, if_true, State.access_leaveFrame, ha]

theorem LinkFlags.anySet_raise (l : LinkFlags) (k : LinkFlag) : (l.raise k).anySet = true := by
  cases k <;> simp [LinkFlags.raise, LinkFlags.anySet]

theorem State.refuseShip_some (s : State) (f : Face) (tag : Half) (status : Status) (k : LinkFlag) :
    s.refuseShip f tag (status, some k) = (s.raiseFlag f k).shipAnswer f tag (refusal status) := rfl

theorem State.refuseShip_flag (s : State) (f : Face) (tag : Half) (status : Status) (k : LinkFlag) :
    s.OnlyFace ((s.leaveFrame f).refuseShip f tag (status, some k)) f ∧
      s.ShipRefused ((s.leaveFrame f).refuseShip f tag (status, some k)) f tag status
        ((s.face f).link.flags.raise k) := by
  refine ⟨((s.onlyFace_leaveFrame f false).trans (State.onlyFace_onFace _ f _)).trans (State.onlyFace_onFace _ f _), ?_⟩
  rw [State.ShipRefused, State.refuseShip_some, State.shipAnswer_eq, State.face_onFace_same, State.raiseFlag_eq,
    State.face_onFace_same, State.face_leaveFrame]
  simp only [FaceState.withFlags, LinkFlags.anySet_raise, refusal]

theorem State.refuseShip_silent (s : State) (f : Face) (tag : Half) (status : Status) :
    s.OnlyFace ((s.leaveFrame f).refuseShip f tag (status, none)) f ∧
      s.ShipAnswers ((s.leaveFrame f).refuseShip f tag (status, none)) f tag status [] :=
  ⟨(s.onlyFace_leaveFrame f false).trans (State.onlyFace_onFace _ f _), State.shipAnswers_shipAnswer rfl⟩

/-! #### The selector (R11, R12) -/

theorem State.lookup_badValue {s : State} {f : Face} {selector : Byte} (h : selector = 0x80 ∨ 0xE4 ≤ selector.toNat) :
    s.lookup f selector = .error (.badValue, none) := by
  have hbad : ¬selector.toNat ≤ 0x7F ∧ ¬(0x81 ≤ selector.toNat ∧ selector.toNat ≤ 0xE3) := by
    rcases h with rfl | h
    · decide
    · omega
  rw [State.lookup, if_neg hbad.1, if_neg hbad.2]

theorem State.lookup_outside {s : State} {f : Face} {selector : Byte} (h : selector.toNat ≤ 0x7F)
    (hw : ∀ w, (s.face f).window = some w → w.Valid ∧ w.size ≤ selector.toNat) :
    s.lookup f selector = .error (.outsideWindow, some .outsideWindow) := by
  have hlen : (windowStations (s.face f).window).length ≤ selector.toNat := by
    cases hwin : (s.face f).window with
    | none =>
      have hnil : windowStations none = [] := List.filter_eq_nil_iff.mpr fun _ _ => Bool.false_ne_true
      simp [hnil]
    | some w =>
      obtain ⟨hvalid, hsize⟩ := hw w hwin
      rwa [length_windowStations hvalid]
  simp only [State.lookup, h, if_true, List.getElem?_eq_none hlen]

theorem State.lookup_notFound {s : State} {f : Face} {selector : Byte} (h : 0x81 ≤ selector.toNat)
    (h' : selector.toNat ≤ 0xE3)
    (hnone : ∀ j, inWindow (s.face f).window j = true → (s.st j).fittingTag ≠ some (selector - 0x80)) :
    s.lookup f selector = .error (.notFound, none) := by
  have hfind : (windowStations (s.face f).window).find?
      (fun i => decide ((s.st i).fittingTag = some (selector - 0x80))) = none :=
    List.find?_eq_none.mpr fun j hj => by simpa using hnone j (mem_windowStations.mp hj)
  simp only [State.lookup, hfind]
  rw [if_neg (by omega), if_pos ⟨h, h'⟩]

/-- A line request of a ship whose selector names no record. -/
theorem shipLine_error {s : State} {f : Face} {tag : Half} {selector : Byte} {r : AccessRefusal} (h : s.ShipReady f tag)
    {mooring : Bool} (hm : mooring = true → s.MooringServed f) (hl : s.lookup f selector = .error r)
    (g : State → StationId → Station → Station × Answer) :
    shipLine f tag selector mooring g s = .next ((s.leaveFrame f).refuseShip f tag r) := by
  rw [shipLine, shipFrame_ready h hm]
  simp only [State.lookup_leaveFrame, hl]

theorem State.MooringServed.granted {s : State} {f : Face} (h : s.MooringServed f) : (s.face f).grant ≠ .vacant := by
  rcases h with h | h <;> simp [h]

/-- Settles O12: the access check, then the selector, each refusal with its flag. -/
theorem theFaceControllerRefusesShipFrames : Obligations.TheFaceControllerRefusesShipFrames := by
  intro f tag selector s hr hrx
  have refused {x : AccessRefusal} (ha : (s.face f).access true tag = some x) :
      exec (.takeUp (.ship f tag selector)) s = .next ((s.leaveFrame f).refuseShip f tag x) := by
    dsimp only [exec, execTakeUp, lineRequest]
    exact shipFrame_refused hr hrx ha _
  have unnamed {x : AccessRefusal} (hm : s.MooringServed f) (ht : tag = (s.face f).tag)
      (hl : s.lookup f selector = .error x) :
      exec (.takeUp (.ship f tag selector)) s = .next ((s.leaveFrame f).refuseShip f tag x) := by
    dsimp only [exec, execTakeUp, lineRequest]
    exact shipLine_error ⟨hr, hrx, hm.granted, ht⟩ (fun _ => hm) hl _
  refine ⟨fun hg => ⟨_, refused (FaceState.access_vacant hg _ _), s.refuseShip_flag f tag _ .noGrant⟩,
    fun hg ht => ⟨_, refused (FaceState.access_otherTag hg _ ht), s.refuseShip_flag f tag _ .tagMismatch⟩,
    fun hg ht => ⟨_, refused (FaceState.access_unmoored hg ht), s.refuseShip_silent f tag _⟩,
    fun hm ht => ⟨fun hsel => ?_, fun hsel hw => ?_, fun hlow hhigh hnone => ?_⟩, fun l x => ⟨?_, fun hc => ?_, fun hc => ?_⟩⟩
  · exact ⟨_, unnamed hm ht (State.lookup_badValue hsel), s.refuseShip_silent f tag _⟩
  · exact ⟨_, unnamed hm ht (State.lookup_outside hsel hw), s.refuseShip_flag f tag _ .outsideWindow⟩
  · exact ⟨_, unnamed hm ht (State.lookup_notFound hlow hhigh hnone), s.refuseShip_silent f tag _⟩
  · rw [Link.handOver]
    split <;> rfl
  · simp [Link.handOver, hc]
  · obtain ⟨y, hy⟩ := Option.isSome_iff_exists.mp hc
    simp [Link.handOver, hy]

end Sys2Proof.Machine
end

section
/-! PROOF. The shore port: the select line, the refusals of its own, and what SDO puts out (R158, R174 to R179). -/

namespace Sys2Proof.Machine

/-! ### The port's own refusals (R175, R177) -/

/-- The refusal that a reading of a frame is, if any. -/
def ShoreRead.refusal? : ShoreRead → Option Status
  | .refused status => some status
  | .incomplete | .request _ => none

/-- The status of a target check. -/
def targetStatus (ok : Bool) : Option Status := if ok then none else some .badTarget

theorem refusal?_onStation (target : Byte) (k : StationId → Instr) :
    (onStation target k).refusal? = targetStatus (decide (target.toNat < 24)) := by
  unfold onStation stationOf targetStatus
  by_cases h : target.toNat < 24 <;> simp [h, ShoreRead.refusal?]

theorem faceOfByte_isSome (b : Byte) : (faceOfByte b).isSome = decide (b.toNat < 2) := by
  unfold faceOfByte
  by_cases h0 : b = 0
  · simp [h0]
  · by_cases h1 : b = 1
    · simp [h1]
    · have h0' : b.toNat ≠ 0 := fun h => h0 (BitVec.eq_of_toNat_eq h)
      have h1' : b.toNat ≠ 1 := fun h => h1 (BitVec.eq_of_toNat_eq h)
      rw [if_neg h0, if_neg h1, decide_eq_false (by omega)]
      rfl

theorem refusal?_onFaceTarget (target : Byte) (k : Face → Instr) :
    (onFaceTarget target k).refusal? = targetStatus (decide (target.toNat < 2)) := by
  rw [← faceOfByte_isSome]
  unfold onFaceTarget
  cases faceOfByte target <;> rfl

theorem toNat_eq_zero_iff (b : Byte) : b = 0 ↔ b.toNat = 0 :=
  ⟨fun h => by rw [h]; rfl, fun h => BitVec.eq_of_toNat_eq h⟩

theorem refusal?_onDevice (target : Byte) (i : Instr) :
    (onDevice target i).refusal? = targetStatus (decide (target.toNat = 0)) := by
  simp only [onDevice, toNat_eq_zero_iff, targetStatus, decide_eq_true_eq]
  split <;> rfl

theorem readScoped_isSome (device : Bool) (scope target : Byte) : (readScoped device scope target).isSome =
    if scope = 0 then decide (target.toNat < 24)
    else if scope = 1 then decide (target.toNat < 2)
    else if device = true ∧ scope = 2 then decide (target.toNat = 0)
    else true := by
  unfold readScoped
  split
  · rw [Option.isSome_map, stationOf]
    split <;> simp [*]
  · split
    · rw [Option.isSome_map, faceOfByte_isSome]
    · split
      · simp only [toNat_eq_zero_iff]
        split <;> simp [*]
      · rfl

theorem refusal?_onScope (device : Bool) (scope target : Byte) (k : Scoped → Instr) :
    (onScope device scope target k).refusal? = targetStatus (readScoped device scope target).isSome := by
  unfold onScope
  cases readScoped device scope target <;> rfl

/-- Checks 3 to 5 of R177, by the row of the request table. -/
def tableStatus (row : Option (Nat × Nat × Nat × TargetKind)) (target : Byte) (payload : List Byte) : Option Status :=
  match row with
  | none => some .unknownRequest
  | some (_, low, high, kind) =>
    if payload.length < low ∨ high < payload.length then some .badLength
    else if targetOk kind target payload then none
    else some .badTarget

theorem portCheck_eq (code target : Byte) (payload : List Byte) (check : Byte) :
    portCheck code target payload check =
      if byteSum ([code, target, natByte payload.length] ++ payload ++ [check]) ≠ 0 then some .badCheck
      else tableStatus (requestTable.find? fun r => decide (r.1 = code.toNat)) target payload := rfl

/-- The codes of the request table. -/
theorem requestTable_codes : requestTable.map Prod.fst = [0x01, 0x10, 0x11, 0x12, 0x13, 0x14, 0x16, 0x20, 0x21, 0x22, 0x23,
    0x24, 0x25, 0x26, 0x28, 0x29, 0x30, 0x31, 0x32, 0x33, 0x34, 0x38, 0x39, 0x3A, 0x3B, 0x3C, 0x3D, 0x40, 0x48, 0x49, 0x4A,
    0x4B, 0x50, 0x58, 0x59] := rfl

/-- The reading goes by the code first: the matcher is opened here once, and never again. -/
theorem readShoreRequest_unknown {code : Byte} (target : Byte) (payload : List Byte)
    (h : code.toNat ∉ requestTable.map Prod.fst) : readShoreRequest code target payload = .refused .unknownRequest := by
  simp only [requestTable_codes, List.mem_cons, List.not_mem_nil, not_or, or_false] at h
  delta readShoreRequest readShoreRequest.match_1
  simp only [h, dite_false, List.mem_cons, List.not_mem_nil, or_false, if_false]


/-- A row of the table: the payload's length first, then the target. -/
theorem refusal?_row {code target : Byte} {payload : List Byte} {n low high : Nat} {kind : TargetKind}
    (hrow : (requestTable.find? fun r => decide (r.1 = code.toNat)) = some (n, low, high, kind))
    (hmis : payload.length < low ∨ high < payload.length → readShoreRequest code target payload = .refused .badLength)
    (hfit : ¬(payload.length < low ∨ high < payload.length) →
      (readShoreRequest code target payload).refusal? = targetStatus (targetOk kind target payload)) :
    (readShoreRequest code target payload).refusal? =
      tableStatus (requestTable.find? fun r => decide (r.1 = code.toNat)) target payload := by
  rw [hrow, tableStatus]
  split
  · next h => rw [hmis h]; rfl
  · next h => exact hfit h

section
variable {code target : Byte} {n : Nat} {kind : TargetKind}

/-- A row without payload. -/
theorem refusal?_none (hrow : (requestTable.find? fun r => decide (r.1 = code.toNat)) = some (n, 0, 0, kind))
    (hfit : (readShoreRequest code target []).refusal? = targetStatus (targetOk kind target []))
    (hlong : ∀ a rest, readShoreRequest code target (a :: rest) = .refused .badLength) {payload : List Byte} :
    (readShoreRequest code target payload).refusal? =
      tableStatus (requestTable.find? fun r => decide (r.1 = code.toNat)) target payload := by
  refine refusal?_row hrow (fun h => ?_) fun h => ?_
  · obtain - | ⟨a, rest⟩ := payload
    · simp at h
    · exact hlong a rest
  · obtain rfl : payload = [] := List.eq_nil_of_length_eq_zero (by omega)
    exact hfit

/-- A row with one byte. -/
theorem refusal?_one (hrow : (requestTable.find? fun r => decide (r.1 = code.toNat)) = some (n, 1, 1, kind))
    (hfit : ∀ a, (readShoreRequest code target [a]).refusal? = targetStatus (targetOk kind target [a]))
    (h0 : readShoreRequest code target [] = .refused .badLength)
    (hlong : ∀ a b rest, readShoreRequest code target (a :: b :: rest) = .refused .badLength) {payload : List Byte} :
    (readShoreRequest code target payload).refusal? =
      tableStatus (requestTable.find? fun r => decide (r.1 = code.toNat)) target payload := by
  refine refusal?_row hrow (fun h => ?_) fun h => ?_
  · obtain - | ⟨a, - | ⟨b, rest⟩⟩ := payload
    · exact h0
    · simp at h
    · exact hlong a b rest
  · obtain ⟨a, rfl⟩ := List.length_eq_one_iff.mp (show payload.length = 1 by omega)
    exact hfit a

/-- A row with two bytes. -/
theorem refusal?_two (hrow : (requestTable.find? fun r => decide (r.1 = code.toNat)) = some (n, 2, 2, kind))
    (hfit : ∀ a b, (readShoreRequest code target [a, b]).refusal? = targetStatus (targetOk kind target [a, b]))
    (h0 : readShoreRequest code target [] = .refused .badLength)
    (h1 : ∀ a, readShoreRequest code target [a] = .refused .badLength)
    (hlong : ∀ a b c rest, readShoreRequest code target (a :: b :: c :: rest) = .refused .badLength)
    {payload : List Byte} : (readShoreRequest code target payload).refusal? =
      tableStatus (requestTable.find? fun r => decide (r.1 = code.toNat)) target payload := by
  refine refusal?_row hrow (fun h => ?_) fun h => ?_
  · obtain - | ⟨a, - | ⟨b, - | ⟨c, rest⟩⟩⟩ := payload
    · exact h0
    · exact h1 a
    · simp at h
    · exact hlong a b c rest
  · match payload, (show payload.length = 2 by omega) with
    | [a, b], _ => exact hfit a b

/-- A row with four bytes. -/
theorem refusal?_four (hrow : (requestTable.find? fun r => decide (r.1 = code.toNat)) = some (n, 4, 4, kind))
    (hfit : ∀ a b c d, (readShoreRequest code target [a, b, c, d]).refusal? =
      targetStatus (targetOk kind target [a, b, c, d]))
    (h0 : readShoreRequest code target [] = .refused .badLength)
    (h1 : ∀ a, readShoreRequest code target [a] = .refused .badLength)
    (h2 : ∀ a b, readShoreRequest code target [a, b] = .refused .badLength)
    (h3 : ∀ a b c, readShoreRequest code target [a, b, c] = .refused .badLength)
    (hlong : ∀ a b c d e rest, readShoreRequest code target (a :: b :: c :: d :: e :: rest) = .refused .badLength)
    {payload : List Byte} : (readShoreRequest code target payload).refusal? =
      tableStatus (requestTable.find? fun r => decide (r.1 = code.toNat)) target payload := by
  obtain - | ⟨a, - | ⟨b, - | ⟨c, - | ⟨d, - | ⟨e, rest⟩⟩⟩⟩⟩ := payload
  · exact refusal?_row hrow (fun _ => h0) fun h => by simp at h
  · exact refusal?_row hrow (fun _ => h1 a) fun h => by simp at h
  · exact refusal?_row hrow (fun _ => h2 a b) fun h => by simp at h
  · exact refusal?_row hrow (fun _ => h3 a b c) fun h => by simp at h
  · exact refusal?_row hrow (fun h => by simp at h) fun _ => hfit a b c d
  · exact refusal?_row hrow (fun _ => hlong a b c d e rest) fun h => by simp at h

end

theorem refusal?_attention (scope target : Byte) (k : Scoped → Instr) (rest : List Byte) :
    (onScope false scope target k).refusal? = targetStatus (targetOk .attentionScope target (scope :: rest)) := by
  rw [refusal?_onScope, readScoped_isSome]
  simp [targetOk]

theorem refusal?_setting (scope target : Byte) (k : Scoped → Instr) (rest : List Byte) :
    (onScope true scope target k).refusal? = targetStatus (targetOk .settingScope target (scope :: rest)) := by
  rw [refusal?_onScope, readScoped_isSome]
  simp [targetOk]

/-- ADOPT: seven bytes. -/
theorem refusal?_adopt (target : Byte) (payload : List Byte) : (readShoreRequest 0x29 target payload).refusal? =
    tableStatus (requestTable.find? fun r => decide (r.1 = (0x29 : Byte).toNat)) target payload := by
  have hrow : (requestTable.find? fun r => decide (r.1 = (0x29 : Byte).toNat)) = some (0x29, 7, 7, .station) := rfl
  obtain - | ⟨a, - | ⟨b, - | ⟨c, - | ⟨d, - | ⟨e, - | ⟨f, - | ⟨g, - | ⟨x, rest⟩⟩⟩⟩⟩⟩⟩⟩ := payload
  case cons.cons.cons.cons.cons.cons.cons.nil =>
    exact refusal?_row hrow (fun h => by simp at h) fun _ => refusal?_onStation _ _
  all_goals exact refusal?_row hrow (fun _ => rfl) fun h => by simp at h

/-- SET_PLAN: width, timeout, and one to sixteen stations. -/
theorem refusal?_setPlan (target : Byte) (payload : List Byte) : (readShoreRequest 0x38 target payload).refusal? =
    tableStatus (requestTable.find? fun r => decide (r.1 = (0x38 : Byte).toNat)) target payload := by
  have hrow : (requestTable.find? fun r => decide (r.1 = (0x38 : Byte).toNat)) = some (0x38, 4, 19, .face) := rfl
  have hmax : Config.windowMax = 16 := rfl
  obtain - | ⟨a, - | ⟨b, - | ⟨c, - | ⟨d, rest⟩⟩⟩⟩ := payload
  case cons.cons.cons.cons =>
    have hread : readShoreRequest 0x38 target (a :: b :: c :: d :: rest) =
        if rest.length < Config.windowMax then onFaceTarget target fun f => .setPlan f a (joinHalf b c) (d :: rest)
        else .refused .badLength := rfl
    refine refusal?_row hrow (fun h => ?_) fun h => ?_
    · simp only [List.length_cons] at h
      rw [hread, if_neg (by omega)]
    · simp only [List.length_cons] at h
      rw [hread, if_pos (by omega)]
      exact refusal?_onFaceTarget _ _
  all_goals exact refusal?_row hrow (fun _ => rfl) fun h => by simp at h

/-- ACK_ATTENTION: the scope and up to nine codes. -/
theorem refusal?_ackAttention (target : Byte) (payload : List Byte) : (readShoreRequest 0x4A target payload).refusal? =
    tableStatus (requestTable.find? fun r => decide (r.1 = (0x4A : Byte).toNat)) target payload := by
  have hrow : (requestTable.find? fun r => decide (r.1 = (0x4A : Byte).toNat)) = some (0x4A, 1, 10, .attentionScope) :=
    rfl
  obtain - | ⟨scope, codes⟩ := payload
  · exact refusal?_row hrow (fun _ => rfl) fun h => by simp at h
  · have hread : readShoreRequest 0x4A target (scope :: codes) =
        if codes.length ≤ 9 then onScope false scope target fun t => .ackAttention t codes else .refused .badLength := rfl
    refine refusal?_row hrow (fun h => ?_) fun h => ?_
    · simp only [List.length_cons] at h
      rw [hread, if_neg (by omega)]
    · simp only [List.length_cons] at h
      rw [hread, if_pos (by omega)]
      exact refusal?_attention _ _ _ _

/-- The reading of a frame whose sum is right refuses it as the table does, row by row. -/
theorem refusal?_readShoreRequest (code target : Byte) (payload : List Byte) :
    (readShoreRequest code target payload).refusal? =
      tableStatus (requestTable.find? fun r => decide (r.1 = code.toNat)) target payload := by
  by_cases h : code.toNat ∈ requestTable.map Prod.fst
  case neg =>
    have hnone : (requestTable.find? fun r => decide (r.1 = code.toNat)) = none :=
      List.find?_eq_none.mpr fun r hr he => h (List.mem_map.mpr ⟨r, hr, of_decide_eq_true he⟩)
    rw [readShoreRequest_unknown target payload h, hnone]
    rfl
  have hcode : code ∈ (requestTable.map Prod.fst).map (BitVec.ofNat 8) :=
    List.mem_map.mpr ⟨_, h, by simp⟩
  simp only [requestTable_codes, List.map, List.mem_cons, List.not_mem_nil, or_false] at hcode
  rcases hcode with rfl | rfl | rfl | rfl | rfl | rfl | rfl | rfl | rfl | rfl | rfl | rfl | rfl | rfl | rfl | rfl | rfl
    | rfl | rfl | rfl | rfl | rfl | rfl | rfl | rfl | rfl | rfl | rfl | rfl | rfl | rfl | rfl | rfl |
    rfl | rfl
  · exact refusal?_none (code := 0x01) rfl (refusal?_onDevice _ _) (fun _ _ => rfl)
  · exact refusal?_none (code := 0x10) rfl (refusal?_onStation _ _) (fun _ _ => rfl)
  · exact refusal?_none (code := 0x11) rfl (refusal?_onFaceTarget _ _) (fun _ _ => rfl)
  · exact refusal?_one (code := 0x12) rfl (fun _ => refusal?_onStation _ _) rfl (fun _ _ _ => rfl)
  · exact refusal?_none (code := 0x13) rfl (refusal?_onStation _ _) (fun _ _ => rfl)
  · exact refusal?_four (code := 0x14) rfl (fun _ _ _ _ => refusal?_onStation _ _)
      rfl (fun _ => rfl) (fun _ _ => rfl) (fun _ _ _ => rfl) (fun _ _ _ _ _ _ => rfl)
  · exact refusal?_one (code := 0x16) rfl (fun _ => refusal?_onStation _ _) rfl (fun _ _ _ => rfl)
  · exact refusal?_two (code := 0x20) rfl (fun _ _ => refusal?_onStation _ _) rfl (fun _ => rfl) (fun _ _ _ _ => rfl)
  · exact refusal?_none (code := 0x21) rfl (refusal?_onStation _ _) (fun _ _ => rfl)
  · exact refusal?_none (code := 0x22) rfl (refusal?_onStation _ _) (fun _ _ => rfl)
  · exact refusal?_none (code := 0x23) rfl (refusal?_onStation _ _) (fun _ _ => rfl)
  · exact refusal?_none (code := 0x24) rfl (refusal?_onStation _ _) (fun _ _ => rfl)
  · exact refusal?_none (code := 0x25) rfl (refusal?_onStation _ _) (fun _ _ => rfl)
  · exact refusal?_none (code := 0x26) rfl (refusal?_onStation _ _) (fun _ _ => rfl)
  · exact refusal?_one (code := 0x28) rfl (fun _ => refusal?_onStation _ _) rfl (fun _ _ _ => rfl)
  · exact refusal?_adopt target payload
  · exact refusal?_two (code := 0x30) rfl (fun _ _ => refusal?_onFaceTarget _ _)
      rfl (fun _ => rfl) (fun _ _ _ _ => rfl)
  · exact refusal?_two (code := 0x31) rfl (fun _ _ => refusal?_onFaceTarget _ _)
      rfl (fun _ => rfl) (fun _ _ _ _ => rfl)
  · exact refusal?_none (code := 0x32) rfl (refusal?_onFaceTarget _ _) (fun _ _ => rfl)
  · exact refusal?_none (code := 0x33) rfl (refusal?_onFaceTarget _ _) (fun _ _ => rfl)
  · exact refusal?_none (code := 0x34) rfl (refusal?_onFaceTarget _ _) (fun _ _ => rfl)
  · exact refusal?_setPlan target payload
  · exact refusal?_none (code := 0x39) rfl (refusal?_onFaceTarget _ _) (fun _ _ => rfl)
  · exact refusal?_none (code := 0x3A) rfl (refusal?_onFaceTarget _ _) (fun _ _ => rfl)
  · exact refusal?_none (code := 0x3B) rfl (refusal?_onFaceTarget _ _) (fun _ _ => rfl)
  · exact refusal?_none (code := 0x3C) rfl (refusal?_onFaceTarget _ _) (fun _ _ => rfl)
  · exact refusal?_none (code := 0x3D) rfl (refusal?_onFaceTarget _ _) (fun _ _ => rfl)
  · exact refusal?_none (code := 0x40) rfl (refusal?_onFaceTarget _ _) (fun _ _ => rfl)
  · exact refusal?_none (code := 0x48) rfl (refusal?_onDevice _ _) (fun _ _ => rfl)
  · exact refusal?_one (code := 0x49) rfl (fun _ => refusal?_attention _ _ _ _) rfl (fun _ _ _ => rfl)
  · exact refusal?_ackAttention target payload
  · exact refusal?_one (code := 0x4B) rfl (fun _ => refusal?_onDevice _ _) rfl (fun _ _ _ => rfl)
  · exact refusal?_one (code := 0x50) rfl (fun _ => refusal?_onFaceTarget _ _) rfl (fun _ _ _ => rfl)
  · exact refusal?_four (code := 0x58) rfl (fun _ _ _ _ => refusal?_setting _ _ _ _)
      rfl (fun _ => rfl) (fun _ _ => rfl) (fun _ _ _ => rfl) (fun _ _ _ _ _ _ => rfl)
  · exact refusal?_two (code := 0x59) rfl (fun _ _ => refusal?_setting _ _ _ _)
      rfl (fun _ => rfl) (fun _ _ _ _ => rfl)

/-- The port reads a whole frame as its own table says. -/
theorem refusal?_readShoreFrame (code target check : Byte) {payload : List Byte} (h : payload.length ≤ 40) :
    (readShoreFrame ([code, target, natByte payload.length] ++ payload ++ [check])).refusal? =
      portCheck code target payload check := by
  have hmax : Config.shorePayloadMax = 40 := rfl
  have hlen : (natByte payload.length).toNat = payload.length := toNat_natByte (by omega)
  have hread : readShoreFrame ([code, target, natByte payload.length] ++ payload ++ [check]) =
      if byteSum ([code, target, natByte payload.length] ++ payload ++ [check]) ≠ 0 then .refused .badCheck
      else readShoreRequest code target payload := by
    simp only [List.cons_append, List.nil_append, readShoreFrame, hlen, List.length_append, List.length_singleton,
      List.take_left']
    rw [if_neg (by omega), if_neg (by simp)]
  rw [hread, portCheck_eq, ← refusal?_readShoreRequest]
  split <;> rfl

/-- SHORE_FRAME_REFUSED at a port that is ready. -/
theorem exec_shoreFrameRefused {s : State} (h : s.HostReady) (frame : List Byte) :
    exec (.shoreFrameRefused frame) s = .next (match (readShoreFrame frame).refusal? with
      | some status => s.shoreAnswer frame.length true (refusal status)
      | none => s) := by
  obtain ⟨hr, hphase, hbits⟩ := h
  dsimp only [exec, execShoreFrameRefused]
  rw [live_running hr, if_pos (ShorePort.takes_ready hphase hbits frame)]
  cases readShoreFrame frame <;> rfl

theorem ofPort_of_portCheck {code target check : Byte} {payload : List Byte} {status : Status}
    (h : portCheck code target payload check = some status) : status.ofPort = true := by
  rw [portCheck_eq] at h
  split at h
  · cases h; rfl
  · unfold tableStatus at h
    split at h
    · cases h; rfl
    · split at h
      · cases h; rfl
      · split at h <;> cases h
        rfl

/-- Settles O7: the reading of a whole frame by the table, and the port's answer at once. -/
theorem thePortRefusesByTheFirstCheckThatFails : Obligations.ThePortRefusesByTheFirstCheckThatFails := by
  intro code target n check payload s h
  refine ⟨fun hn => ?_, fun hlen => ⟨fun status hstatus => ?_, fun hnone => ?_⟩⟩
  · have hmax : Config.shorePayloadMax = 40 := rfl
    have hread : (readShoreFrame [code, target, n]).refusal? = some .badLength := by
      simp only [readShoreFrame]
      rw [if_pos (by omega)]
      rfl
    exact ⟨s.shoreAnswer 3 true (refusal .badLength), (exec_shoreFrameRefused h _).trans (by rw [hread]; rfl),
      s.onlyPort_shoreAnswer _ _ _, rfl, rfl, rfl, rfl⟩
  · have hframe : ([code, target, natByte payload.length] ++ payload ++ [check]).length = payload.length + 4 := by
      simp
    refine ⟨_, (exec_shoreFrameRefused h _).trans (by rw [refusal?_readShoreFrame code target check hlen, hstatus]),
      s.onlyPort_shoreAnswer _ _ _, ?_⟩
    rw [State.Answers, ofPort_of_portCheck hstatus, State.AnswersAfter, State.shore_shoreAnswer, hframe]
    rfl
  · exact ⟨_, (exec_shoreFrameRefused h _).trans (by rw [refusal?_readShoreFrame code target check hlen, hnone]), rfl⟩

/-! ### The select line (R158, R174, R179) -/

theorem ShorePort.takes_iff {p : ShorePort} (h : p.phase = .receiving) (frame : List Byte) :
    p.takes frame = true ↔ p.received <+: frameBits frame := by
  simp [ShorePort.takes, h]

/-- The part with no bit at its port: the bits of a frame's beginning make no difference to a request. -/
theorem takeFrame_clearBits {s : State} (hr : s.inReset = false) {frame : List Byte} (hphase : s.shore.phase = .receiving)
    (h : s.shore.received <+: frameBits frame) (atOnce : Bool) (k : State → State × Answer) :
    takeFrame frame atOnce k s = takeFrame frame atOnce k s.clearBits :=
  (takeFrame_taken hr ((ShorePort.takes_iff hphase frame).mpr h) atOnce k).trans
    (takeFrame_taken (s := s.clearBits) hr (ShorePort.takes_ready (p := s.clearBits.shore) hphase rfl frame) atOnce k).symm

/-- A frame that the port refuses is taken as any other. -/
theorem exec_shoreFrameRefused_eq {frame : List Byte} {status : Status} (h : readShoreFrame frame = .refused status)
    (s : State) : exec (.shoreFrameRefused frame) s = takeFrame frame true (fun s => (s, refusal status)) s := by
  dsimp only [exec, execShoreFrameRefused, takeFrame]
  rw [h]
  rfl

theorem State.sdo_highZ {s : State} (h : s.inReset = true ∨ s.shore.selLow = false ∨ s.shore.phase = .idle)
    (slow k j : Nat) : s.sdo slow k j = .highZ := if_pos h

section
variable {s : State} (hr : s.inReset = false) (hs : s.shore.selLow = true)
include hr hs

theorem State.sdo_driven (hp : s.shore.phase ≠ .idle) (slow k j : Nat) :
    s.sdo slow k j = .driven ((s.shore.sdoByte slow k).getLsbD (7 - j)) :=
  if_neg (by simp [hr, hs, hp])

end

theorem ShorePort.phaseAt_wait {p : ShorePort} (h : p.phase = .answering) {slow k : Nat} (hk : k < p.waitBytes slow) :
    p.phaseAt slow k = .waiting := if_pos ⟨h, hk⟩

theorem ShorePort.phaseAt_past {p : ShorePort} {slow k : Nat} (hk : p.waitBytes slow ≤ k) :
    p.phaseAt slow k = p.phase := if_neg fun h => absurd h.2 (by omega)

theorem ShorePort.phaseAt_other {p : ShorePort} (h : p.phase ≠ .answering) (slow k : Nat) :
    p.phaseAt slow k = p.phase := if_neg fun hp => h hp.1

/-- Settles O6: the two edges, a request's bits, and the byte that SDO shows in each phase. -/
theorem selectEdgesBeginAndEndATransaction : Obligations.SelectEdgesBeginAndEndATransaction := by
  intro s
  refine ⟨fun hr => ⟨fun hs bits _ => ?_, fun hs => ?_, fun i frame hi hphase => ?_⟩, fun slow k j => ⟨fun h => ?_,
    fun hr hs => ⟨fun hphase => ?_, fun a hphase ha waits hwaits => ⟨fun hk => ?_, fun hk => ?_⟩⟩⟩⟩
  · refine ⟨{ s with shore := { ShorePort.reset with
      phase := .receiving, selLow := true, bitCount := bits.length, received := bits } }, ?_, ?_, rfl, rfl, rfl, rfl, rfl⟩
    · dsimp only [exec, execSelectBegin]
      rw [live_running hr, if_neg (by simp [hs])]
    · exact ⟨fun _ _ => rfl, fun f _ => by cases f <;> rfl, rfl, rfl, rfl, rfl⟩
  · refine ⟨{ s with shore := ShorePort.reset }, ?_, ?_, rfl, rfl, rfl, rfl, rfl⟩
    · dsimp only [exec, execSelectEnd]
      rw [live_running hr, if_pos hs]
    · exact ⟨fun _ _ => rfl, fun f _ => by cases f <;> rfl, rfl, rfl, rfl, rfl⟩
  · have htake : ∃ atOnce k, ∀ s, exec i s = takeFrame frame atOnce k s := by
      rcases hi with hframe | ⟨rfl, status, hread⟩
      · exact exec_eq_takeFrame hframe
      · exact ⟨true, _, exec_shoreFrameRefused_eq hread⟩
    obtain ⟨atOnce, k, hk⟩ := htake
    refine ⟨fun hbits => ?_, fun hbits => ?_⟩
    · rw [hk, hk]
      exact takeFrame_clearBits hr hphase hbits atOnce k
    · rw [hk]
      exact takeFrame_other (Bool.eq_false_iff.mpr fun ht => hbits ((ShorePort.takes_iff hphase frame).mp ht)) atOnce k
  · exact State.sdo_highZ h slow k j
  · rw [State.sdo_driven hr hs (by simp [hphase]), ShorePort.sdoByte,
      ShorePort.phaseAt_other (by simp [hphase]), hphase]
    simp
  · subst hwaits
    have hwait := ShorePort.phaseAt_wait hphase (slow := slow) hk
    rw [State.sdo_driven hr hs (by simp [hphase]), ShorePort.sdoByte, hwait]
    exact ⟨rfl, rfl⟩
  · subst hwaits
    have hpast : s.shore.phaseAt slow k = .answering := (ShorePort.phaseAt_past hk).trans hphase
    rw [State.sdo_driven hr hs (by simp [hphase]), ShorePort.sdoByte, hpast, ha]
    exact ⟨rfl, rfl⟩

end Sys2Proof.Machine
end

section
/-! PROOF. Reading the part (R11, R12, R22, R23, R113, R122, R171, R172, R180). -/

namespace Sys2Proof.Machine

/-! ### Requests of the host that read -/

section
variable {s : State} (h : s.HostReady)
include h

theorem hostComes_queryLine (i : StationId) : HostComes (.queryLine (.host i)) s 0 (s, ⟨.ok, s.recordView i⟩) := by
  dsimp only [HostComes, exec, execQueryLine]
  exact hostRequest_ready h (i := .queryLine (.host i)) rfl _

theorem hostComes_windowList (f : Face) : HostComes (.windowList (.host f)) s 0 (s, ⟨.ok, s.shoreList f⟩) := by
  dsimp only [HostComes, exec, execWindowList]
  exact hostRequest_ready h (i := .windowList (.host f)) rfl _

theorem hostComes_queryFace (f : Face) : HostComes (.queryFace f) s 0 (s, ⟨.ok, s.faceView f⟩) := by
  dsimp only [HostComes, exec, execQueryFace]
  exact hostRequest_ready h (i := .queryFace f) rfl _

theorem hostComes_queryPlan (f : Face) : HostComes (.queryPlan f) s 0 (s, ⟨.ok, (s.seq f).view⟩) := by
  dsimp only [HostComes, exec, execQueryPlan]
  exact hostRequest_ready h (i := .queryPlan f) rfl _

theorem hostComes_summary : HostComes .summary s 0 (s, ⟨.ok, s.summaryView⟩) := by
  dsimp only [HostComes, exec, execSummary]
  exact hostRequest_ready h (i := .summary) rfl _

/-- IDENT is the port's own, and its answer is formed at once. -/
theorem exec_ident : exec .ident s = .next (s.shoreAnswer 4 true ⟨.ok, [0x4F, 0x24, 0x12]⟩) := by
  have hframe : shoreFrameOf .ident = some (shoreFrame 0x01 0 []) := rfl
  refine (portRequest_eq_takeFrame hframe _ s).trans ?_
  rw [takeFrame_taken h.1 (ShorePort.takes_ready h.2.1 h.2.2 _), State.clearBits_of_nil h.2.2]
  rfl

end

/-! ### Requests of a ship that read -/

/-- A ship request that its face answers without a change. -/
theorem shipFrame_reads {s : State} {f : Face} {tag : Half} (h : s.ShipReady f tag)
    {k : State → Except AccessRefusal (State × Answer)} {payload : List Byte}
    (hk : k (s.leaveFrame f) = .ok (s.leaveFrame f, ⟨.ok, payload⟩)) {c : Instr} (hc : exec c s = shipFrame f tag false k s) :
    Completes c s fun t => s.OnlyFace t f ∧ s.ShipAnswers t f tag .ok payload := by
  refine ⟨(s.leaveFrame f).shipAnswer f tag ⟨.ok, payload⟩, ?_, ?_, State.shipAnswers_shipAnswer rfl⟩
  · rw [hc, shipFrame_ready h fun hm => absurd hm Bool.false_ne_true, hk]
  · exact (s.onlyFace_leaveFrame f false).trans (State.onlyFace_onFace _ f _)

theorem State.seq_leaveFrame_face (s : State) (f g : Face) : ((s.leaveFrame f).face g).sequencer = (s.face g).sequencer :=
  s.seq_leaveFrame f g

/-- Leaving a frame changes nothing that the views show. -/
theorem State.recordView_leaveFrame (s : State) (f : Face) (i : StationId) :
    (s.leaveFrame f).recordView i = s.recordView i := by
  simp only [State.recordView, State.planEntry, State.faceOf_leaveFrame, State.seq_leaveFrame_face, State.st_leaveFrame]

theorem State.shipList_leaveFrame (s : State) (f : Face) : (s.leaveFrame f).shipList f = s.shipList f := by
  have hentry : (s.leaveFrame f).shipEntry = s.shipEntry := funext fun i => by
    simp only [State.shipEntry, State.st_leaveFrame]
  rw [State.shipList, State.window_leaveFrame, hentry]
  rfl

/-! ### The lengths of the views -/

theorem length_flatMap_const {α β : Type} {g : α → List β} {n : Nat} (hg : ∀ a, (g a).length = n) (l : List α) :
    (l.flatMap g).length = n * l.length := by
  induction l with
  | nil => rfl
  | cons a rest ih =>
    rw [List.flatMap_cons, List.length_append, hg, ih, List.length_cons, Nat.mul_succ, Nat.add_comm]

theorem State.length_recordView (s : State) (i : StationId) : (s.recordView i).length = 24 := rfl

theorem State.length_faceView (s : State) (f : Face) : (s.faceView f).length = 14 := by
  dsimp only [State.faceView]
  cases (s.face f).window <;> rfl

theorem Sequencer.length_view (q : Sequencer) : q.view.length = 7 + 2 * q.entries.length := by
  rw [Sequencer.view, List.length_append, length_flatMap_const (n := 2) fun _ => rfl]
  rfl

/-- Settles O11: each reading request answers with its view, and the lengths of the views. -/
theorem queriesShowThePartAndChangeNothing : Obligations.QueriesShowThePartAndChangeNothing := by
  refine ⟨fun i f s h => ⟨?_, ?_, ?_, ?_, ?_, ?_, ?_, ?_, s.length_recordView i, ?_, s.length_faceView f,
    (s.seq f).length_view, rfl⟩, fun f tag selector i s h => ⟨?_, fun hsel => ?_⟩⟩
  · exact ⟨_, exec_ident h, s.onlyPort_shoreAnswer _ _ _, rfl⟩
  · exact (hostComes_queryLine h i).reading rfl rfl
  · exact (hostComes_windowList h f).reading rfl rfl
  · exact (hostComes_queryFace h f).reading rfl rfl
  · exact (hostComes_queryPlan h f).reading rfl rfl
  · exact (hostComes_summary h).reading rfl rfl
  · exact (hostComes_readAttention h (.station i)).reading rfl rfl
  · exact (hostComes_readAttention h (.face f)).reading rfl rfl
  · exact length_flatMap_const (g := s.shoreEntry) (fun _ => rfl) _
  · refine shipFrame_reads h (k := fun s => .ok (s, ⟨.ok, s.shipList f⟩)) ?_ ?_
    · rw [State.shipList_leaveFrame]
    · dsimp only [exec, execWindowList]
  · refine shipFrame_reads h (k := fun s => match s.lookup f selector with
      | .error r => .error r
      | .ok i => .ok (s, ⟨.ok, s.recordView i⟩)) ?_ ?_
    · simp only [State.lookup_leaveFrame, State.lookup_of_selects hsel, State.recordView_leaveFrame]
    · rfl

end Sys2Proof.Machine
end

section
/-! PROOF. The frames of requests and answers (R174 to R177, R187, Table 12-1). -/

namespace Sys2Proof.Machine

/-! ### A host request read back from its frame -/

theorem onStation_natByte (i : StationId) (k : StationId → Instr) : onStation (natByte i.val) k = .request (k i) := by
  rw [onStation, stationOf_natByte]

theorem onFaceTarget_faceCode (f : Face) (k : Face → Instr) : onFaceTarget (faceCode f) k = .request (k f) := by
  rw [onFaceTarget, faceOfByte_faceCode]

/-- A scope of a request that names it: it stands in the payload, its target in the frame. -/
theorem onScope_scoped {device : Bool} {t : Scoped} (hd : t = .device → device = true)
    (ho : ∀ scope target, t = .other scope target → scope ≠ 0 ∧ scope ≠ 1 ∧ ¬(device = true ∧ scope = 2))
    (k : Scoped → Instr) : onScope device (scopeByte t) (scopeTarget t) k = .request (k t) := by
  have hread : readScoped device (scopeByte t) (scopeTarget t) = some t := by
    cases t with
    | station i => simp [readScoped, scopeByte, scopeTarget, stationOf_natByte]
    | face f => simp [readScoped, scopeByte, scopeTarget, faceOfByte_faceCode]
    | device => simp [readScoped, scopeByte, scopeTarget, hd rfl]
    | other scope target =>
      obtain ⟨h0, h1, h2⟩ := ho scope target rfl
      rw [readScoped, scopeByte, scopeTarget, if_neg h0, if_neg h1, if_neg h2]
  rw [onScope, hread]

theorem onScope_attention {t : Scoped} (h : t.attentionShape = true) (k : Scoped → Instr) :
    onScope false (scopeByte t) (scopeTarget t) k = .request (k t) := by
  refine onScope_scoped (fun ht => ?_) (fun scope target ht => ?_) k
  · subst ht
    cases h
  · subst ht
    have hle : 2 ≤ scope.toNat := of_decide_eq_true h
    refine ⟨fun h0 => ?_, fun h1 => ?_, fun hd => Bool.false_ne_true hd.1⟩
    · subst h0
      simp at hle
    · subst h1
      simp at hle

theorem onScope_setting {t : Scoped} (h : t.settingShape = true) (k : Scoped → Instr) :
    onScope true (scopeByte t) (scopeTarget t) k = .request (k t) := by
  refine onScope_scoped (fun _ => rfl) (fun scope target ht => ?_) k
  subst ht
  have hle : 3 ≤ scope.toNat := of_decide_eq_true h
  refine ⟨fun h0 => ?_, fun h1 => ?_, fun h2 => ?_⟩
  · subst h0
    simp at hle
  · subst h1
    simp at hle
  · obtain ⟨-, rfl⟩ := h2
    simp at hle

/-- The request's code, target and payload are read as the request. -/
def ReadBack (i : Instr) : Prop :=
  ∀ r, shoreRequest i = some r → i.WellFormed = true →
    r.2.2.length ≤ 40 ∧ readShoreRequest r.1 r.2.1 r.2.2 = .request i

theorem ReadBack.of_none {i : Instr} (h : shoreRequest i = none) : ReadBack i := fun _ hr => by
  rw [h] at hr
  cases hr

theorem ReadBack.of_some {i : Instr} {code target : Byte} {payload : List Byte}
    (h : shoreRequest i = some (code, target, payload)) (hn : payload.length ≤ 40)
    (hread : readShoreRequest code target payload = .request i) : ReadBack i := fun r hr _ => by
  rw [h] at hr
  cases hr
  exact ⟨hn, hread⟩

/-- The rows of Table 12-2, each with its operands at every value. -/
theorem readBack (i : Instr) : ReadBack i := by
  cases i with
  | ident | summary => exact .of_some rfl (by simp) rfl
  | queryLine sender | popHold sender | takeUp sender | markClear sender =>
    cases sender with
    | host i => exact .of_some rfl (by simp) (onStation_natByte i _)
    | ship f tag selector => exact .of_none rfl
  | windowList sender =>
    cases sender with
    | host f => exact .of_some rfl (by simp) (onFaceTarget_faceCode f _)
    | ship f tag selector => exact .of_none rfl
  | pushHold sender x | markAttached sender x =>
    cases sender with
    | host i => exact .of_some rfl (by simp) (onStation_natByte i _)
    | ship f tag selector => exact .of_none rfl
  | lock i | unlock i | release i | cancel i => exact .of_some rfl (by simp) (onStation_natByte i _)
  | clearFault i x => exact .of_some rfl (by simp) (onStation_natByte i _)
  | payout i x =>
    refine .of_some rfl (by simp [halfBytes]) ((onStation_natByte i _).trans ?_)
    rw [joinHalf_halfBytes]
  | setBand i low high =>
    refine .of_some rfl (by simp [halfBytes]) ((onStation_natByte i _).trans ?_)
    rw [joinHalf_halfBytes, joinHalf_halfBytes]
  | adopt i target presence tag low high =>
    refine .of_some rfl (by simp [halfBytes]) ((onStation_natByte i _).trans ?_)
    rw [joinHalf_halfBytes, joinHalf_halfBytes]
  | secure f | vacate f | queryFace f | queryPlan f | depart f | pause f | resume f | abortDepart f | emergencyRelease f =>
    exact .of_some rfl (by simp) (onFaceTarget_faceCode f _)
  | setWindow f base limit => exact .of_some rfl (by simp) (onFaceTarget_faceCode f _)
  | clearLinkStatus f set => exact .of_some rfl (by simp) (onFaceTarget_faceCode f _)
  | arrive f tag =>
    refine .of_some rfl (by simp [halfBytes]) ((onFaceTarget_faceCode f _).trans ?_)
    rw [joinHalf_halfBytes]
  | setClassMask mask => exact .of_some rfl (by simp) rfl
  | setPlan f width timeout stations =>
    intro r hr hw
    cases hr
    simp only [Instr.WellFormed, Bool.and_eq_true, decide_eq_true_eq] at hw
    obtain ⟨hpos, hmax⟩ := hw
    have hsixteen : Config.windowMax = 16 := rfl
    obtain - | ⟨first, rest⟩ := stations
    · simp at hpos
    · simp only [List.length_cons] at hmax
      refine ⟨by simp [halfBytes]; omega, ?_⟩
      refine (if_pos (show rest.length < Config.windowMax by omega)).trans ((onFaceTarget_faceCode f _).trans ?_)
      rw [joinHalf_halfBytes]
  | readAttention target =>
    intro r hr hw
    cases hr
    exact ⟨by simp, onScope_attention hw _⟩
  | ackAttention target codes =>
    intro r hr hw
    cases hr
    simp only [Instr.WellFormed, Bool.and_eq_true, decide_eq_true_eq] at hw
    obtain ⟨hshape, hlen⟩ := hw
    exact ⟨by simp; omega, (if_pos hlen).trans (onScope_attention hshape _)⟩
  | setSetting target item value =>
    intro r hr hw
    cases hr
    refine ⟨by simp [halfBytes], (onScope_setting hw _).trans ?_⟩
    rw [joinHalf_halfBytes]
  | getSetting target item =>
    intro r hr hw
    cases hr
    exact ⟨by simp, onScope_setting hw _⟩
  | _ => exact .of_none rfl

/-- The bytes of a ship request's frame. -/
def shipFrameBytes (tag : Half) (code selector : Byte) (payload : List Byte) : List Byte :=
  halfBytes tag ++ code :: selector :: natByte payload.length :: payload ++
    [checkByte (halfBytes tag ++ code :: selector :: natByte payload.length :: payload)]

theorem readShipFrame_bytes (f : Face) (tag : Half) (code selector : Byte) {payload : List Byte} (h : payload.length ≤ 6) :
    readShipFrame f (shipFrameBytes tag code selector payload) = readShipRequest f tag code selector payload := by
  have hmax : Config.shipPayloadMax = 6 := rfl
  have hlen : (natByte payload.length).toNat = payload.length := toNat_natByte (by omega)
  have hsum := byteSum_closed (halfBytes tag ++ code :: selector :: natByte payload.length :: payload)
  simp only [shipFrameBytes, halfBytes, List.cons_append, List.nil_append] at hsum ⊢
  simp only [readShipFrame, hlen, List.length_append, List.length_singleton, List.take_left', hsum, joinHalf_halfBytes]
  rw [if_neg (by omega)]
  simp

/-- Every ship request's code, selector and payload are read as the request. -/
theorem readShipRequest_of {i : Instr} {f : Face} (hf : shipFaceOf i = some f) :
    ∃ tag code selector payload, shipRequestOf i = some (tag, code, selector, payload) ∧ payload.length ≤ 6 ∧
      readShipRequest f tag code selector payload = .request i := by
  cases i with
  | queryLine sender | windowList sender | popHold sender | takeUp sender | markClear sender =>
    cases sender with
    | host i => cases hf
    | ship g tag selector =>
      cases hf
      exact ⟨_, _, _, _, rfl, by simp, rfl⟩
  | pushHold sender x | markAttached sender x =>
    cases sender with
    | host i => cases hf
    | ship g tag selector =>
      cases hf
      exact ⟨_, _, _, _, rfl, by simp, rfl⟩
  | requestBand g tag selector low high =>
    cases hf
    refine ⟨_, _, _, _, rfl, by simp [halfBytes], ?_⟩
    have hread : readShipRequest f tag 0x15 selector (halfBytes low ++ halfBytes high) =
        .request (.requestBand f tag selector (joinHalf (low.extractLsb' 8 8) (low.extractLsb' 0 8))
          (joinHalf (high.extractLsb' 8 8) (high.extractLsb' 0 8))) := rfl
    rw [hread, joinHalf_halfBytes, joinHalf_halfBytes]
  | _ => cases hf

/-- Settles O9: the rows of Table 12-2 at each port, and the frame around them. -/
theorem readingTheFrameOfARequestGivesItBack : Obligations.ReadingTheFrameOfARequestGivesItBack := by
  refine ⟨fun i frame hw hframe => ?_, fun i f frame hf hframe => ?_⟩
  · obtain ⟨⟨code, target, payload⟩, hr, rfl⟩ := Option.map_eq_some_iff.mp hframe
    obtain ⟨hlen, hread⟩ := readBack i _ hr hw
    simp only at hlen hread ⊢
    rw [readShoreFrame_shoreFrame code target hlen, length_shoreFrame]
    exact ⟨hread, by omega, by omega, byteSum_closed _⟩
  · obtain ⟨tag, code, selector, payload, hr, hlen, hread⟩ := readShipRequest_of hf
    obtain rfl : frame = shipFrameBytes tag code selector payload := by
      rw [shipFrameOf, hr] at hframe
      exact (Option.some.inj hframe).symm
    have hbytes : (shipFrameBytes tag code selector payload).length = payload.length + 6 := by
      simp [shipFrameBytes, halfBytes]
    rw [readShipFrame_bytes f tag code selector hlen, hbytes]
    exact ⟨hread, by omega, by omega, byteSum_closed _⟩

/-! ### Answers (R176, R187) -/

/-- Settles O8: the bytes in their order, and the check byte that closes them. -/
theorem answerFramesSumToZero : Obligations.AnswerFramesSumToZero := by
  intro a tag
  refine ⟨byteSum_closed _, ?_, rfl, ?_, byteSum_closed _, ?_, rfl, ?_⟩
  · simp [Answer.shoreFrame]
  · simp [Answer.shoreFrame]
  · simp [TxFrame.bytes, halfBytes]
  · simp [TxFrame.bytes, halfBytes]

end Sys2Proof.Machine
end

section
/-! PROOF. The line code of the infrared links (R182 to R184, Table 11-1). -/

namespace Sys2Proof.Machine

/-! ### One byte (R184) -/

theorem byteOfBits_bitsOfByte (b : Byte) : byteOfBits (bitsOfByte b) = b := by
  have hall : ∀ high low : Fin 16, byteOfBits (bitsOfByte (BitVec.ofNat 8 (16 * high.val + low.val))) =
      BitVec.ofNat 8 (16 * high.val + low.val) := by decide
  have hlt := b.isLt
  have hb := hall ⟨b.toNat / 16, by omega⟩ ⟨b.toNat % 16, by omega⟩
  simpa only [Nat.div_add_mod, BitVec.ofNat_toNat, BitVec.setWidth_eq] using hb

theorem length_bitsOfByte (b : Byte) : (bitsOfByte b).length = 8 := by simp [bitsOfByte]

/-- Where the receiver stands after a whole byte. -/
def afterByte (bytes : List Byte) (b : Byte) : Reception :=
  if bytes.length = 4 ∧ 6 < b.toNat then .discard (bytes ++ [b]) else .bits (bytes ++ [b]) [] false

/-- One bit's mark and space. -/
theorem receive_bit {bytes : List Byte} {taken : List Bool} (h : frameFull bytes taken = false) (b : Bool)
    (rest : List Element) :
    receive (.bits bytes taken false) (bitElements b ++ rest) = receive (takeBit bytes taken b) rest := by
  cases b <;> simp [bitElements, receive, judge, markInClass, shortSpace, longSpace, h]

theorem frameFull_taken (bytes : List Byte) (taken : List Bool) (b : Bool) : frameFull bytes (taken ++ [b]) = false := by
  simp [frameFull]

/-- The bits of a byte that are left to come complete it. -/
theorem receive_bits {bytes : List Byte} (todo taken : List Bool) (h : frameFull bytes taken = false)
    (hlen : taken.length + todo.length = 8) (hpos : todo ≠ []) (rest : List Element) :
    receive (.bits bytes taken false) (todo.flatMap bitElements ++ rest) =
      receive (afterByte bytes (byteOfBits (taken ++ todo))) rest := by
  induction todo generalizing taken with
  | nil => exact absurd rfl hpos
  | cons b more ih =>
    rw [List.flatMap_cons, List.append_assoc, receive_bit h]
    cases more with
    | nil =>
      have height : (taken ++ [b]).length = 8 := by simpa using hlen
      have hbyte : takeBit bytes taken b = afterByte bytes (byteOfBits (taken ++ [b])) := by
        have hmax : Config.shipPayloadMax = 6 := rfl
        simp only [takeBit, afterByte, height, if_true, List.length_append, List.length_singleton, hmax,
          Nat.reduceEqDiff]
      rw [hbyte]
      rfl
    | cons c more =>
      have hshort : (taken ++ [b]).length ≠ 8 := by
        simp only [List.length_append, List.length_cons, List.length_nil] at hlen ⊢
        omega
      rw [takeBit]
      simp only [hshort, if_false]
      rw [ih (taken ++ [b]) (frameFull_taken bytes taken b)
        (by simp only [List.length_append, List.length_cons, List.length_nil] at hlen ⊢; omega) (List.cons_ne_nil _ _),
        List.append_assoc]
      rfl

theorem receive_byte {bytes : List Byte} (h : frameFull bytes [] = false) (b : Byte) (rest : List Element) :
    receive (.bits bytes [] false) ((bitsOfByte b).flatMap bitElements ++ rest) = receive (afterByte bytes b) rest := by
  have hne : bitsOfByte b ≠ [] := List.ne_nil_of_length_pos (by rw [length_bitsOfByte]; decide)
  rw [receive_bits (bitsOfByte b) [] h (by rw [length_bitsOfByte]; rfl) hne, List.nil_append, byteOfBits_bitsOfByte]

/-! ### A whole frame -/

section
variable {all : List Byte} {n : Byte} (hn : all[4]? = some n) (hmax : n.toNat ≤ 6) (hlen : all.length = 6 + n.toNat)
include hn hlen

/-- The frame is full when all its bytes are taken, and no earlier. -/
theorem frameFull_iff {bytes todo : List Byte} (h : bytes ++ todo = all) : frameFull bytes [] = true ↔ todo = [] := by
  have hsum : bytes.length + todo.length = 6 + n.toNat := by rw [← List.length_append, h, hlen]
  have hfifth : bytes[4]? = if 4 < bytes.length then some n else none := by
    split
    · next hlt => rw [← hn, ← h, List.getElem?_append_left hlt]
    · next hge => exact List.getElem?_eq_none (by omega)
  simp only [frameFull, frameLength, hfifth, decide_true, Bool.true_and, decide_eq_true_eq]
  constructor
  · intro hfull
    split at hfull
    · have hlength : 6 + n.toNat = bytes.length := Option.some.inj hfull
      exact List.eq_nil_of_length_eq_zero (by omega)
    · cases hfull
  · rintro rfl
    simp only [List.length_nil] at hsum
    rw [if_pos (by omega), Option.map_some, ← hsum, Nat.add_zero]

include hmax

/-- The bytes still to come, and the closing mark. -/
theorem receive_bytes (todo bytes : List Byte) (h : bytes ++ todo = all) :
    receive (.bits bytes [] false) (todo.flatMap (fun b => (bitsOfByte b).flatMap bitElements) ++ [.mark 8]) =
      .complete all := by
  induction todo generalizing bytes with
  | nil =>
    have hfull : frameFull bytes [] = true := (frameFull_iff hn hlen h).mpr rfl
    obtain rfl : bytes = all := by simpa using h
    simp [receive, judge, markInClass, hfull]
  | cons b more ih =>
    have hopen : frameFull bytes [] = false :=
      Bool.eq_false_iff.mpr fun hfull => List.cons_ne_nil _ _ ((frameFull_iff hn hlen h).mp hfull)
    have hbyte : afterByte bytes b = .bits (bytes ++ [b]) [] false := by
      refine if_neg fun ⟨hfour, hlarge⟩ => ?_
      have hb : all[4]? = some b := by
        rw [← h, List.getElem?_append_right (by omega), hfour]
        rfl
      rw [hn] at hb
      cases hb
      omega
    rw [List.flatMap_cons, List.append_assoc, receive_byte hopen, hbyte]
    exact ih (bytes ++ [b]) (by rw [← h, List.append_assoc]; rfl)

theorem receive_lineElements : receive .start (lineElements all) = .complete all :=
  receive_bytes hn hmax hlen all [] rfl

end

/-! ### Measuring (R182, R184) -/

theorem FaceSettings.measure_eq {u : FaceSettings} {p : Pulse} {k : Nat} (h : k * (125 * u.linkUnit) ≤ p.ns)
    (h' : p.ns < (k + 1) * (125 * u.linkUnit)) :
    u.measure p = if u.isMark p.high then .mark k else .space k := by
  rw [FaceSettings.measure, FaceSettings.ticks_of_bounds h h']

/-- Settles O10: byte after byte, and what a pulse measures as. -/
theorem receivingTheLineCodeGivesItsBytes : Obligations.ReceivingTheLineCodeGivesItsBytes := by
  refine ⟨fun bytes n hn hmax hlen => ⟨receive_lineElements hn hmax hlen, fun u hu => ⟨u.measured_shown hu _, ?_⟩⟩,
    fun u p k h h' => ⟨fun hp => ?_, fun hp => ?_⟩⟩
  · rintro l rfl
    rw [Link.received, FaceSettings.measured_shown hu]
    exact receive_lineElements hn hmax hlen
  · rw [FaceSettings.measure_eq h h']
    cases p.high <;> simp [FaceSettings.isMark, hp]
  · rw [FaceSettings.measure_eq h h']
    cases p.high <;> simp [FaceSettings.isMark, hp]

end Sys2Proof.Machine
end

section
/-! PROOF. The receiver's and the transmitter's events of a ship link (R182 to R189). -/

namespace Sys2Proof.Machine

/-! ### The transmitter (R183, R186, R188) -/

section
variable {s : State} (h : s.inReset = false) (f : Face)
include h

theorem exec_answerTransmitStart : exec (.answerTransmitStart f) s = .next
    (if (s.face f).link.current.isSome ∧ (s.face f).link.sending = false ∧ (s.face f).link.rx.holdsFrame = false then
      s.onFace f fun x => { x with link := { x.link with rx := .blanked, sending := true, txSettings := x.settings } }
    else s) := by
  dsimp only [exec, execAnswerTransmitStart]
  exact live_running h _

theorem exec_answerSent : exec (.answerSent f) s = .next
    (if (s.face f).link.sending then s.onFace f fun x => { x with link := x.link.sent } else s) := by
  dsimp only [exec, execAnswerSent]
  exact live_running h _

theorem exec_turnaroundEnd (high : Bool) : exec (.turnaroundEnd f high) s = .next
    (if (s.face f).link.rx = .blanked ∧ (s.face f).link.sending = false ∧ (s.face f).link.current = none then
      s.leaveFrame f ((s.face f).settings.isMark high)
    else s) := by
  dsimp only [exec, execTurnaroundEnd]
  exact live_running h _

end

theorem Link.handOver_empty {l : Link} (h : l.current = none) (x : TxFrame) :
    l.handOver x = { l with current := some x } := by
  simp [Link.handOver, h]

theorem Link.handOver_taken {l : Link} (h : l.current.isSome = true) (x : TxFrame) :
    l.handOver x = { l with waiting := some x } := by
  obtain ⟨y, hy⟩ := Option.isSome_iff_exists.mp h
  simp [Link.handOver, hy]

theorem State.irtx_dark {s : State} {f : Face} (h : s.inReset = true ∨ (s.face f).link.sending = false) (time : Nat) :
    s.irtx f time = !decide ((s.face f).link.txSettings.transmitPolarity = 0) := by
  have hoff : (!s.inReset && (s.face f).link.carrierOn time) = false := by
    rcases h with h | h <;> simp [Link.carrierOn, h]
  rw [State.irtx]
  simp only [hoff, FaceSettings.txLevel]
  simp

theorem State.irtx_sending {s : State} {f : Face} (h : s.inReset = false) (hs : (s.face f).link.sending = true)
    {x : TxFrame} (hx : (s.face f).link.current = some x) (time : Nat) :
    s.irtx f time = (((timeInMark (s.face f).link.txSettings.tick (frameElements x.bytes) time).any
      (s.face f).link.txSettings.carrierActive) == decide ((s.face f).link.txSettings.transmitPolarity = 0)) := by
  simp [State.irtx, FaceSettings.txLevel, Link.carrierOn, h, hs, hx]

/-- Settles O53: the two slots, the three events, and the light within an element. -/
theorem theTransmitterSendsItsTwoSlots : Obligations.TheTransmitterSendsItsTwoSlots := by
  rintro f s l rfl
  refine ⟨fun x => ⟨fun hc => Link.handOver_empty hc x, fun hc => Link.handOver_taken hc x⟩,
    fun hr => ⟨fun hc hs hrx => ?_, fun hno => ?_, fun hs => ?_, fun hs => ?_, fun high => ⟨fun hrx hs hc => ?_, fun hno => ?_⟩⟩,
    ?_⟩
  · exact ⟨_, (exec_answerTransmitStart hr f).trans (by rw [if_pos ⟨hc, hs, hrx⟩]), s.onlyFace_onFace f _,
      State.face_onFace_same _ _ _⟩
  · have hidle : ¬((s.face f).link.current.isSome = true ∧ (s.face f).link.sending = false ∧
        (s.face f).link.rx.holdsFrame = false) := by
      rcases hno with hno | hno | hno <;> simp [hno]
    exact ⟨s, (exec_answerTransmitStart hr f).trans (by rw [if_neg hidle]), rfl⟩
  · exact ⟨_, (exec_answerSent hr f).trans (by rw [if_pos hs]), s.onlyFace_onFace f _, State.face_onFace_same _ _ _⟩
  · exact ⟨s, (exec_answerSent hr f).trans (by rw [if_neg (by simp [hs])]), rfl⟩
  · exact ⟨s.leaveFrame f ((s.face f).settings.isMark high),
      (exec_turnaroundEnd hr f high).trans (by rw [if_pos ⟨hrx, hs, hc⟩]), s.onlyFace_leaveFrame f _, s.face_leaveFrame f _⟩
  · have hbusy : ¬((s.face f).link.rx = .blanked ∧ (s.face f).link.sending = false ∧ (s.face f).link.current = none) := by
      rcases hno with hno | hno | hno <;> simp [hno]
    exact ⟨s, (exec_turnaroundEnd hr f high).trans (by rw [if_neg hbusy]), rfl⟩
  · rintro u rfl
    refine ⟨fun time hdark => State.irtx_dark hdark time, fun hr hs x hx before after ticks time ht start hstart =>
      ⟨fun hel => ?_, fun hel => ?_⟩⟩
    · have hplace : timeInMark (s.face f).link.txSettings.tick (frameElements x.bytes) (start + time) = some time := by
        rw [hel, hstart]
        refine (timeInMark_append _ before _ time).trans ?_
        exact if_pos ht
      rw [State.irtx_sending hr hs hx, hplace]
      rfl
    · have hplace : timeInMark (s.face f).link.txSettings.tick (frameElements x.bytes) (start + time) = none := by
        rw [hel, hstart]
        refine (timeInMark_append _ before _ time).trans ?_
        exact if_pos ht
      rw [State.irtx_sending hr hs hx, hplace]
      simp

/-! ### The start mark (R182, R184) -/

theorem exec_startMarkAccepted {s : State} (h : s.inReset = false) (f : Face) (mark : Pulse) (marks changes : Nat) :
    exec (.startMarkAccepted f mark marks changes) s = .next (match (s.face f).settingsAt changes with
      | some u =>
        if (s.face f).link.rx = .idle ∧ ¬((s.face f).link.ignoring = true ∧ marks = 0) ∧ u.startsFrame mark = true then
          s.onFace f fun x => { x with link := { x.link with rx := .start, ignoring := false, rxSettings := u } }
        else s
      | none => s) := by
  dsimp only [exec, execStartMarkAccepted]
  refine (live_running h _).trans ?_
  cases (s.face f).settingsAt changes <;> rfl

theorem FaceSettings.startsFrame_iff (u : FaceSettings) (p : Pulse) : u.startsFrame p = true ↔
    (p.high = true ↔ u.receivePolarity = 1) ∧ u.startMin ≤ p.ns / (125 * u.linkUnit) ∧
      p.ns / (125 * u.linkUnit) ≤ u.startMax := by
  have hlevel : u.isMark p.high = true ↔ (p.high = true ↔ u.receivePolarity = 1) := by
    cases p.high <;> simp [FaceSettings.isMark]
  rw [← hlevel, FaceSettings.startsFrame, FaceSettings.measure]
  cases u.isMark p.high with
  | false => simp
  | true => simp [FaceSettings.tick]

theorem FaceState.settingsAt_eq {x : FaceState} {changes : Nat} {u : FaceSettings}
    (h : changes = 0 ∧ u = x.settings ∨ ∃ k, changes = k + 1 ∧ x.link.earlier[k]? = some u) :
    x.settingsAt changes = some u := by
  rcases h with ⟨rfl, rfl⟩ | ⟨k, rfl, hk⟩
  · rfl
  · exact hk

/-! ### A frame error and the end of a discarded frame (R185) -/

theorem receive_startSpace (k : Nat) : receive .start [.space k] = .frameError false ↔ k < 24 ∨ 40 < k := by
  by_cases h : startSpaceInClass k = true
  · have hk : 24 ≤ k ∧ k ≤ 40 := by simpa [startSpaceInClass] using h
    simp only [receive, judge, h, if_true]
    simp
    omega
  · have hk : ¬(24 ≤ k ∧ k ≤ 40) := by simpa [startSpaceInClass] using h
    simp only [receive, judge, h]
    simp
    omega

theorem receive_bitMark (m : Nat) (running : Bool) :
    receive .start [.space 32, .mark m] = .frameError running ↔ (m < 4 ∨ 12 < m) ∧ running = decide (13 ≤ m) := by
  by_cases h : markInClass m = true
  · have hm : 4 ≤ m ∧ m ≤ 12 := by simpa [markInClass] using h
    simp [receive, judge, startSpaceInClass, h, frameFull, frameLength]
    omega
  · have hm : ¬(4 ≤ m ∧ m ≤ 12) := by simpa [markInClass] using h
    have herror : receive .start [.space 32, .mark m] = .frameError (decide (13 ≤ m)) := by
      simp [receive, judge, startSpaceInClass, h, markStillRunning]
    rw [herror, ReceptionEnd.frameError.injEq, eq_comm, iff_and_self]
    exact fun _ => by omega

theorem receive_bitSpace (k : Nat) : receive .start [.space 32, .mark 8, .space k] = .frameError false ↔
    k < 4 ∨ (12 < k ∧ k < 20) ∨ 28 < k := by
  by_cases hs : shortSpace k = true
  · have hk : 4 ≤ k ∧ k ≤ 12 := by simpa [shortSpace] using hs
    simp [receive, judge, startSpaceInClass, markInClass, frameFull, frameLength, hs]
    omega
  · have hk : ¬(4 ≤ k ∧ k ≤ 12) := by simpa [shortSpace] using hs
    by_cases hl : longSpace k = true
    · have hk : 20 ≤ k ∧ k ≤ 28 := by simpa [longSpace] using hl
      simp [receive, judge, startSpaceInClass, markInClass, frameFull, frameLength, hs, hl]
      omega
    · have hk : ¬(20 ≤ k ∧ k ≤ 28) := by simpa [longSpace] using hl
      simp [receive, judge, startSpaceInClass, markInClass, frameFull, frameLength, hs, hl]
      omega

theorem frameFull_short {bytes : List Byte} (h : bytes.length < 5) (taken : List Bool) :
    frameFull bytes taken = false := by
  simp [frameFull, frameLength, List.getElem?_eq_none (show bytes.length ≤ 4 by omega)]

theorem afterByte_short {bytes : List Byte} (h : bytes.length < 4) (b : Byte) :
    afterByte bytes b = .bits (bytes ++ [b]) [] false := if_neg fun hb => by omega

/-- The header of a frame whose length byte is above 6, and the silence behind it. -/
theorem receive_discard (a b code selector n : Byte) {k : Nat} (hn : 6 < n.toNat) (hk : 49 ≤ k) :
    receive .start ((lineElements [a, b, code, selector, n]).dropLast ++ [.mark 8, .space k]) =
      .discardEnd [a, b, code, selector, n] := by
  have hcut : (lineElements [a, b, code, selector, n]).dropLast ++ [.mark 8, .space k] =
      .space 32 :: ([a, b, code, selector, n].flatMap (fun b => (bitsOfByte b).flatMap bitElements) ++
        [.mark 8, .space k]) := by
    rw [lineElements, List.cons_append, ← List.cons_append, List.dropLast_concat, List.cons_append]
  have hstart (rest : List Element) : receive .start (.space 32 :: rest) = receive (.bits [] [] false) rest := rfl
  have hlast : afterByte [a, b, code, selector] n = .discard [a, b, code, selector, n] := if_pos ⟨rfl, hn⟩
  rw [hcut, hstart]
  simp only [List.flatMap_cons, List.flatMap_nil, List.append_nil, List.append_assoc]
  rw [receive_byte (frameFull_short (by simp) _), afterByte_short (by simp),
    receive_byte (frameFull_short (by simp) _), afterByte_short (by simp),
    receive_byte (frameFull_short (by simp) _), afterByte_short (by simp),
    receive_byte (frameFull_short (by simp) _), afterByte_short (by simp),
    receive_byte (frameFull_short (by simp) _)]
  simp only [List.nil_append, List.cons_append, hlast]
  simp [receive, judge, hk]

section
variable {s : State} (h : s.inReset = false) {f : Face} (hrx : (s.face f).link.rx.holdsFrame = true)
include h hrx

theorem exec_shipFrameError (signal : List Pulse) : exec (.shipFrameError f signal) s = .next
    (match (s.face f).link.received signal with
      | .frameError running => (s.leaveFrame f running).raiseFlag f .frameError
      | _ => s) := by
  dsimp only [exec, execShipFrameError]
  refine (live_running h _).trans ((congrArg Host.Outcome.next (if_pos hrx)).trans ?_)
  cases (s.face f).link.received signal <;> rfl

theorem exec_shipFrameDiscardEnd (signal : List Pulse) : exec (.shipFrameDiscardEnd f signal) s = .next
    (match (s.face f).link.received signal with
      | .discardEnd header => (s.leaveFrame f).shipAnswer f (tagOfBytes header) (refusal .badLength)
      | _ => s) := by
  dsimp only [exec, execShipFrameDiscardEnd]
  refine (live_running h _).trans ((congrArg Host.Outcome.next (if_pos hrx)).trans ?_)
  cases (s.face f).link.received signal <;> rfl

theorem exec_shipFrameRefused (frame : List Byte) : exec (.shipFrameRefused f frame) s = .next
    (match readShipFrame f frame with
      | .refused tag status => s.refuseFrame f tag status
      | .incomplete | .request _ => s) := by
  dsimp only [exec, execShipFrameRefused]
  refine (live_running h _).trans ((congrArg Host.Outcome.next (if_pos hrx)).trans ?_)
  cases readShipFrame f frame <;> rfl

end

end Sys2Proof.Machine
end

section
/-! PROOF. The frames that a ship link refuses by itself, and the receiver's events together (R182 to R189). -/

namespace Sys2Proof.Machine

/-! ### Code and length of a ship request (R187, steps 3 and 4) -/

/-- The reading goes by the code first, as at the shore port. -/
theorem readShipRequest_unknown {code : Byte} (f : Face) (tag : Half) (selector : Byte) (payload : List Byte)
    (h : ∀ r ∈ shipTable, r.1 ≠ code.toNat) :
    readShipRequest f tag code selector payload = .refused tag .unknownRequest := by
  simp only [shipTable, List.forall_mem_cons, List.not_mem_nil, false_imp_iff, implies_true, and_true, ne_comm (b := code.toNat)] at h
  delta readShipRequest readShipRequest.match_1
  simp only [h, dite_false, List.mem_cons, List.not_mem_nil, or_false, if_false]

section
variable {f : Face} {tag : Half} {code selector : Byte}

/-- The request of the code takes payloads of `n` bytes and no others. -/
def TakesBytes (f : Face) (tag : Half) (code selector : Byte) (n : Nat) : Prop :=
  ∀ payload : List Byte,
    (n = payload.length → ∃ i, readShipRequest f tag code selector payload = .request i) ∧
      (n ≠ payload.length → readShipRequest f tag code selector payload = .refused tag .badLength)

theorem takesBytes_none (h0 : ∃ i, readShipRequest f tag code selector [] = .request i)
    (hlong : ∀ a rest, readShipRequest f tag code selector (a :: rest) = .refused tag .badLength) :
    TakesBytes f tag code selector 0 := fun payload => by
  cases payload with
  | nil => exact ⟨fun _ => h0, fun hn => absurd rfl hn⟩
  | cons a rest => exact ⟨fun hn => absurd hn (by simp), fun _ => hlong a rest⟩

theorem takesBytes_one (h1 : ∀ a, ∃ i, readShipRequest f tag code selector [a] = .request i)
    (h0 : readShipRequest f tag code selector [] = .refused tag .badLength)
    (hlong : ∀ a b rest, readShipRequest f tag code selector (a :: b :: rest) = .refused tag .badLength) :
    TakesBytes f tag code selector 1 := fun payload => by
  obtain - | ⟨a, - | ⟨b, rest⟩⟩ := payload
  · exact ⟨fun hn => absurd hn (by simp), fun _ => h0⟩
  · exact ⟨fun _ => h1 a, fun hn => absurd rfl hn⟩
  · exact ⟨fun hn => absurd hn (by simp), fun _ => hlong a b rest⟩

theorem takesBytes_band : TakesBytes f tag 0x15 selector 4 := fun payload => by
  obtain - | ⟨a, - | ⟨b, - | ⟨c, - | ⟨d, - | ⟨e, rest⟩⟩⟩⟩⟩ := payload
  case cons.cons.cons.cons.nil => exact ⟨fun _ => ⟨_, rfl⟩, fun hn => absurd rfl hn⟩
  all_goals exact ⟨fun hn => absurd hn (by simp), fun _ => rfl⟩

/-- The rows of the ship table. -/
theorem takesBytes_of_mem {r : Nat × Nat} (hr : r ∈ shipTable) (hcode : r.1 = code.toNat) :
    TakesBytes f tag code selector r.2 := by
  obtain rfl : code = BitVec.ofNat 8 r.1 := by rw [hcode, BitVec.ofNat_toNat, BitVec.setWidth_eq]
  simp only [shipTable, List.mem_cons, List.not_mem_nil, or_false] at hr
  rcases hr with rfl | rfl | rfl | rfl | rfl | rfl | rfl | rfl
  · exact takesBytes_none ⟨_, rfl⟩ fun _ _ => rfl
  · exact takesBytes_none ⟨_, rfl⟩ fun _ _ => rfl
  · exact takesBytes_one (fun _ => ⟨_, rfl⟩) rfl fun _ _ _ => rfl
  · exact takesBytes_none ⟨_, rfl⟩ fun _ _ => rfl
  · exact takesBytes_band
  · exact takesBytes_one (fun _ => ⟨_, rfl⟩) rfl fun _ _ _ => rfl
  · exact takesBytes_none ⟨_, rfl⟩ fun _ _ => rfl
  · exact takesBytes_none ⟨_, rfl⟩ fun _ _ => rfl

end

/-- A whole frame: the check first, then code and length. -/
theorem readShipFrame_whole (f : Face) (a b code selector n check : Byte) {payload : List Byte} (hn : n.toNat ≤ 6)
    (hlen : payload.length = n.toNat) :
    readShipFrame f ([a, b, code, selector, n] ++ payload ++ [check]) =
      if byteSum ([a, b, code, selector, n] ++ payload ++ [check]) ≠ 0 then .refused (a ++ b) .badCheck
      else readShipRequest f (a ++ b) code selector payload := by
  have hmax : Config.shipPayloadMax = 6 := rfl
  have htake : (payload ++ [check]).take n.toNat = payload := by rw [← hlen, List.take_left']; rfl
  simp only [List.cons_append, List.nil_append, readShipFrame, List.length_append, List.length_singleton, hlen, htake]
  rw [if_neg (by omega)]
  rfl

/-! ### A refusal answered (R187, R188, R189) -/

theorem State.refuseFrame_answered (s : State) (f : Face) (tag : Half) {status : Status} (h : status ≠ .badCheck) :
    s.OnlyFace (s.refuseFrame f tag status) f ∧ s.ShipAnswers (s.refuseFrame f tag status) f tag status [] := by
  rw [State.refuseFrame]
  simp only [h, if_false]
  exact ⟨(s.onlyFace_leaveFrame f false).trans (State.onlyFace_onFace _ f _), State.shipAnswers_shipAnswer rfl⟩

/-- The face with FRAME_ERROR set and the receiver hunting again. -/
def FaceState.frameErred (x : FaceState) (running : Bool) : FaceState := { x with
  link := { x.link with
    rx := .idle, ignoring := running, earlier := [], flags := { x.link.flags with frameError := true } }
  attn := x.attn.put .linkError true }

theorem State.face_frameErred (s : State) (f : Face) (running : Bool) :
    ((s.leaveFrame f running).raiseFlag f .frameError).face f = (s.face f).frameErred running := by
  rw [State.raiseFlag_eq, State.face_onFace_same, State.face_leaveFrame]
  simp only [FaceState.withFlags, LinkFlags.anySet_raise]
  rfl

theorem State.onlyFace_frameErred (s : State) (f : Face) (running : Bool) :
    s.OnlyFace ((s.leaveFrame f running).raiseFlag f .frameError) f :=
  (s.onlyFace_leaveFrame f running).trans (State.onlyFace_onFace _ f _)

/-- A bad check: FRAME_ERROR, and an answer where ANSWER_ERRORS is ON. -/
theorem State.refuseFrame_badCheck (s : State) (f : Face) (tag : Half) : s.refuseFrame f tag .badCheck =
    if (s.face f).link.rxSettings.answerErrors = 1 then
      ((s.leaveFrame f).raiseFlag f .frameError).shipAnswer f tag (refusal .badCheck)
    else (s.leaveFrame f).raiseFlag f .frameError := by
  have hset : (((s.leaveFrame f).raiseFlag f .frameError).face f).link.rxSettings = (s.face f).link.rxSettings := by
    rw [State.face_frameErred]
    rfl
  rw [State.refuseFrame]
  simp only [if_true, hset]

theorem Link.handOver_keeps (l : Link) (x : TxFrame) : (l.handOver x).rx = l.rx ∧ (l.handOver x).flags = l.flags := by
  rw [Link.handOver]
  split <;> exact ⟨rfl, rfl⟩

/-- What a bad check leaves: `answered` is the face's link where the refusal is answered. -/
theorem State.refuseFrame_badCheck_face (s : State) (f : Face) (tag : Half) : (s.refuseFrame f tag .badCheck).face f =
    if (s.face f).link.rxSettings.answerErrors = 1 then { (s.face f).frameErred false with
      link := ((s.face f).frameErred false).link.handOver ⟨tag, refusal .badCheck⟩ }
    else (s.face f).frameErred false := by
  rw [State.refuseFrame_badCheck]
  split
  · rw [State.shipAnswer_eq, State.face_onFace_same, State.face_frameErred]
  · exact s.face_frameErred f false

theorem State.onlyFace_refuseFrame_badCheck (s : State) (f : Face) (tag : Half) :
    s.OnlyFace (s.refuseFrame f tag .badCheck) f := by
  rw [State.refuseFrame_badCheck]
  split
  · exact (s.onlyFace_frameErred f false).trans (State.onlyFace_onFace _ f _)
  · exact s.onlyFace_frameErred f false

/-- Settles O52: the start mark, the receiver's judgements, and the refusals of a whole frame. -/
theorem theReceiverBeginsRefusesAndDiscardsFrames : Obligations.TheReceiverBeginsRefusesAndDiscardsFrames := by
  rintro f s l rfl hr
  refine ⟨fun mark marks changes u hu => ⟨fun hrx hig hlevel hmin hmax => ?_, fun hno => ?_⟩,
    fun mark marks changes hlen => ?_, fun hrx => ⟨fun signal running hsig => ?_, fun signal hsig => ?_,
      receive_startSpace, fun m => ?_, fun m => ?_, receive_bitSpace, fun a b code selector n k signal hn hk hsig => ?_,
      fun signal hsig => ?_, fun a b code selector n check payload hn hlen => ⟨fun hsum => ?_, fun hsum => ⟨fun hcode => ?_,
        fun r hmem hcode => ⟨fun hne => ?_, fun heq => ?_⟩⟩⟩⟩⟩
  · have hcond : (s.face f).link.rx = .idle ∧ ¬((s.face f).link.ignoring = true ∧ marks = 0) ∧
        u.startsFrame mark = true :=
      ⟨hrx, fun ⟨hi, hm⟩ => hig.elim (fun h => by simp [h] at hi) (· hm), (u.startsFrame_iff mark).mpr ⟨hlevel, hmin, hmax⟩⟩
    exact ⟨_, (exec_startMarkAccepted hr f mark marks changes).trans
      (by rw [FaceState.settingsAt_eq hu]; exact congrArg _ (if_pos hcond)), s.onlyFace_onFace f _,
      State.face_onFace_same _ _ _⟩
  · have hcond : ¬((s.face f).link.rx = .idle ∧ ¬((s.face f).link.ignoring = true ∧ marks = 0) ∧
        u.startsFrame mark = true) := by
      rintro ⟨hrx, hig, hstart⟩
      obtain ⟨hlevel, hmin, hmax⟩ := (u.startsFrame_iff mark).mp hstart
      rcases hno with hno | hno | hno | hno | hno
      · exact hno hrx
      · exact hig hno
      · exact hno hlevel
      · omega
      · omega
    exact ⟨s, (exec_startMarkAccepted hr f mark marks changes).trans
      (by rw [FaceState.settingsAt_eq hu]; exact congrArg _ (if_neg hcond)), rfl⟩
  · have hnone : (s.face f).settingsAt changes = none :=
      List.getElem?_eq_none (by simp only [List.length_cons]; omega)
    exact ⟨s, (exec_startMarkAccepted hr f mark marks changes).trans (by rw [hnone]), rfl⟩
  · exact ⟨_, (exec_shipFrameError hr hrx signal).trans (by rw [hsig]), s.onlyFace_frameErred f running,
      s.face_frameErred f running⟩
  · refine ⟨s, (exec_shipFrameError hr hrx signal).trans ?_, rfl⟩
    cases hend : (s.face f).link.received signal with
    | frameError running => exact absurd hend (hsig running)
    | _ => rfl
  · rw [receive_bitMark]
    simp
    omega
  · rw [receive_bitMark]
    simp
    omega
  · have hreceived : (s.face f).link.received signal = .discardEnd [a, b, code, selector, n] := by
      rw [Link.received, hsig]
      exact receive_discard a b code selector n hn hk
    exact ⟨(s.leaveFrame f).shipAnswer f (a ++ b) (refusal .badLength),
      (exec_shipFrameDiscardEnd hr hrx signal).trans (by rw [hreceived]; rfl),
      (s.onlyFace_leaveFrame f false).trans (State.onlyFace_onFace _ f _), State.shipAnswers_shipAnswer rfl⟩
  · refine ⟨s, (exec_shipFrameDiscardEnd hr hrx signal).trans ?_, rfl⟩
    cases hend : (s.face f).link.received signal with
    | discardEnd header => exact absurd hend (hsig header)
    | _ => rfl
  · have hread := readShipFrame_whole f a b code selector n check hn hlen
    rw [if_pos hsum] at hread
    refine ⟨_, (exec_shipFrameRefused hr hrx _).trans (by rw [hread]), s.onlyFace_refuseFrame_badCheck f _, ?_⟩
    rw [State.refuseFrame_badCheck_face]
    by_cases ha : (s.face f).link.rxSettings.answerErrors = 1
    · rw [if_pos ha]
      obtain ⟨hidle, hflags⟩ := ((s.face f).frameErred false).link.handOver_keeps ⟨a ++ b, refusal .badCheck⟩
      refine ⟨hidle, hflags, rfl, fun hoff => absurd ha hoff, fun _ hc => ?_, fun _ hc => ?_⟩
      · rw [Link.handOver_empty (l := ((s.face f).frameErred false).link) hc]
        rfl
      · rw [Link.handOver_taken (l := ((s.face f).frameErred false).link) hc]
        exact ⟨rfl, rfl⟩
    · rw [if_neg ha]
      exact ⟨rfl, rfl, rfl, fun _ => ⟨rfl, rfl⟩, fun hon => absurd hon ha, fun hon => absurd hon ha⟩
  · have hread := readShipFrame_whole f a b code selector n check hn hlen
    rw [if_neg (not_not_intro hsum), readShipRequest_unknown f (a ++ b) selector payload hcode] at hread
    exact ⟨_, (exec_shipFrameRefused hr hrx _).trans (by rw [hread]), s.refuseFrame_answered f _ nofun⟩
  · have hread := readShipFrame_whole f a b code selector n check hn hlen
    rw [if_neg (not_not_intro hsum), (takesBytes_of_mem hmem hcode payload).2 hne] at hread
    exact ⟨_, (exec_shipFrameRefused hr hrx _).trans (by rw [hread]), s.refuseFrame_answered f _ nofun⟩
  · obtain ⟨i, hi⟩ := (takesBytes_of_mem (f := f) (tag := a ++ b) (selector := selector) hmem hcode payload).1 heq
    have hread := readShipFrame_whole f a b code selector n check hn hlen
    rw [if_neg (not_not_intro hsum), hi] at hread
    exact ⟨s, (exec_shipFrameRefused hr hrx _).trans (by rw [hread]), rfl⟩

end Sys2Proof.Machine
end

section
/-! PROOF. The views and the output pins (R6, R22, R23, R84, R96, R113, R122, R158, R171, Table 12-5). -/

namespace Sys2Proof.Machine

/-! ### Bits and fields of a byte -/

/-- A field of a byte that is a sum of fields. -/
theorem extractLsb'_natByte (n k w : Nat) (h : n < 256) :
    (natByte n).extractLsb' k w = BitVec.ofNat w (n / 2 ^ k) := by
  refine BitVec.eq_of_toNat_eq ?_
  rw [BitVec.extractLsb'_toNat, toNat_natByte h, Nat.shiftRight_eq_div_pow, BitVec.toNat_ofNat]

theorem LineState.code_le (state : LineState) : state.code.toNat ≤ 10 := by cases state <;> decide

theorem Station.bandStatus_le (c : Station) : c.bandStatus ≤ 3 := by
  unfold Station.bandStatus
  split
  · split
    · decide
    · split <;> decide
  · decide

/-! ### The list entries (R23, Table 1-7) -/

/-- The first byte of a ship's entry. -/
def Station.entryByte (c : Station) : Nat := c.state.code.toNat + 16 * c.holds.length + 64 * c.bandStatus

theorem Station.entryByte_fields {c : Station} (h : c.holds.length ≤ 2) :
    (natByte c.entryByte).extractLsb' 4 2 = BitVec.ofNat 2 c.holds.length ∧
      (natByte c.entryByte).extractLsb' 6 2 = BitVec.ofNat 2 c.bandStatus := by
  have hcode := c.state.code_le
  have hstatus := c.bandStatus_le
  have hlt : c.entryByte < 256 := by rw [Station.entryByte]; omega
  have hholds : c.entryByte / 2 ^ 4 = c.holds.length + 4 * c.bandStatus := by rw [Station.entryByte]; omega
  have hband : c.entryByte / 2 ^ 6 = c.bandStatus := by rw [Station.entryByte]; omega
  rw [extractLsb'_natByte _ _ _ hlt, extractLsb'_natByte _ _ _ hlt, hholds, hband]
  refine ⟨BitVec.eq_of_toNat_eq ?_, rfl⟩
  simp only [BitVec.toNat_ofNat]
  omega

/-- The state's code in the low four bits, whatever stands above it. -/
theorem Station.entryByte_state (c : Station) :
    (natByte c.entryByte).extractLsb' 0 4 = c.state.code.extractLsb' 0 4 := by
  have hcode := c.state.code_le
  refine BitVec.eq_of_toNat_eq ?_
  simp only [BitVec.extractLsb'_toNat, natByte, BitVec.toNat_ofNat, Nat.shiftRight_zero, Station.entryByte]
  omega

/-! ### The pins (R84, R96) -/

theorem Station.pins_running {c : Station} {g : Segment} (hm : c.drive.mode = .running) (hc : c.drive.cur = some g) :
    c.pwmDuty = g.duty ∧ c.brakeReleased = true := by
  simp [Station.pwmDuty, Station.brakeReleased, hm, hc]

theorem Station.pins_free {c : Station} (hm : c.drive.mode = .free) : c.pwmDuty = 0 ∧ c.brakeReleased = true := by
  simp [Station.pwmDuty, Station.brakeReleased, hm]

theorem Station.pins_idle {c : Station} (hm : c.drive.mode = .idle) : c.pwmDuty = 0 ∧ c.brakeReleased = false := by
  simp [Station.pwmDuty, Station.brakeReleased, hm]

/-! ### The record view (R22) -/

/-- The presence marks of a record view, from bit 0 on. -/
def presenceByte (a b c d e f g : Bool) : Byte :=
  bitAt a 0 ||| bitAt b 1 ||| bitAt c 2 ||| bitAt d 3 ||| bitAt e 4 ||| bitAt f 5 ||| bitAt g 6

theorem presenceByte_bits (a b c d e f g : Bool) :
    (presenceByte a b c d e f g).getLsbD 0 = a ∧ (presenceByte a b c d e f g).getLsbD 1 = b ∧
      (presenceByte a b c d e f g).getLsbD 2 = c ∧ (presenceByte a b c d e f g).getLsbD 3 = d ∧
      (presenceByte a b c d e f g).getLsbD 4 = e ∧ (presenceByte a b c d e f g).getLsbD 5 = f ∧
      (presenceByte a b c d e f g).getLsbD 6 = g := by
  simp only [presenceByte, BitVec.getLsbD_or, getLsbD_bitAt _ (show 0 < 8 by decide), getLsbD_bitAt _ (show 1 < 8 by decide),
    getLsbD_bitAt _ (show 2 < 8 by decide), getLsbD_bitAt _ (show 3 < 8 by decide), getLsbD_bitAt _ (show 4 < 8 by decide),
    getLsbD_bitAt _ (show 5 < 8 by decide), getLsbD_bitAt _ (show 6 < 8 by decide)]
  simp

theorem Station.average_isSome (c : Station) : c.average.isSome = !c.monitor.samples.isEmpty := by
  unfold Station.average
  cases c.monitor.samples <;> rfl

/-- Byte 15: the clamp field, the phase bit and the sensor status. -/
theorem clampByte_fields (field : ClampField) (phase failed : Bool) :
    (field.code ||| bitAt phase 6 ||| bitAt failed 7).extractLsb' 0 3 = field.code.extractLsb' 0 3 ∧
      (field.code ||| bitAt phase 6 ||| bitAt failed 7).getLsbD 6 = phase ∧
      (field.code ||| bitAt phase 6 ||| bitAt failed 7).getLsbD 7 = failed := by
  revert phase failed
  cases field <;> decide

theorem Station.phaseBit_eq (c : Station) : c.phaseBit =
    ((c.state == .slack && c.clearRemembered == some true) ||
      (c.state == .easing && c.easingPhase == some .rendering)) := by
  rw [Bool.eq_iff_iff]
  simp only [Station.phaseBit, Bool.or_eq_true, Bool.and_eq_true, decide_eq_true_eq, beq_iff_eq]

/-- Byte 16: the hold count and the two holders. -/
theorem holdByte_fields (n : Nat) (h : n ≤ 2) (top under : Bool) :
    (natByte n ||| bitAt top 4 ||| bitAt under 5).extractLsb' 0 2 = BitVec.ofNat 2 n ∧
      (natByte n ||| bitAt top 4 ||| bitAt under 5).getLsbD 4 = top ∧
      (natByte n ||| bitAt top 4 ||| bitAt under 5).getLsbD 5 = under := by
  have hall : ∀ (n : Fin 3) (top under : Bool),
      (natByte n.val ||| bitAt top 4 ||| bitAt under 5).extractLsb' 0 2 = BitVec.ofNat 2 n.val ∧
        (natByte n.val ||| bitAt top 4 ||| bitAt under 5).getLsbD 4 = top ∧
        (natByte n.val ||| bitAt top 4 ||| bitAt under 5).getLsbD 5 = under := by decide
  exact hall ⟨n, by omega⟩ top under

theorem any_holder (h : Option Hold) : (h.any fun x => decide (x.holder = .ship)) = (h.map Hold.holder == some .ship) := by
  cases h with
  | none => rfl
  | some x => rfl

/-! ### The plan view (R122) -/

theorem statusByte_fields (status : EntryStatus) (timer late : Bool) :
    (status.code ||| bitAt timer 4 ||| bitAt late 5).extractLsb' 0 3 = status.code.extractLsb' 0 3 ∧
      (status.code ||| bitAt timer 4 ||| bitAt late 5).getLsbD 4 = timer ∧
      (status.code ||| bitAt timer 4 ||| bitAt late 5).getLsbD 5 = late := by
  revert timer late
  cases status <;> decide

/-- A list of pairs, flat: the pair of the `k`-th entry begins at byte `2 k`. -/
theorem getElem?_flatMap_pairs {α β : Type} {g : α → List β} {first second : α → β} (hg : ∀ a, g a = [first a, second a])
    {l : List α} {k : Nat} {a : α} (h : l[k]? = some a) :
    (l.flatMap g)[2 * k]? = some (first a) ∧ (l.flatMap g)[2 * k + 1]? = some (second a) := by
  induction l generalizing k with
  | nil => simp at h
  | cons x rest ih =>
    rw [List.flatMap_cons, hg]
    cases k with
    | zero =>
      obtain rfl : x = a := by simpa using h
      exact ⟨rfl, rfl⟩
    | succ k =>
      have hrest := ih (k := k) (by simpa using h)
      simpa only [Nat.mul_succ, List.cons_append, List.nil_append, List.getElem?_cons_succ] using hrest

theorem Sequencer.view_entry {q : Sequencer} {k : Nat} {e : PlanEntry} (h : q.entries[k]? = some e) :
    q.view[7 + 2 * k]? = some (natByte e.station.val) ∧
      q.view[8 + 2 * k]? = some (e.status.code ||| bitAt e.timer.isSome 4 ||| bitAt e.late 5) := by
  obtain ⟨hfirst, hsecond⟩ := getElem?_flatMap_pairs (g := PlanEntry.view) (fun _ => rfl) h
  have hview : q.view = ([q.state.code, q.state.reasonCode, natByte q.width] ++ natBytes q.timeout ++
      [natByte q.cursor, natByte q.entries.length]) ++ q.entries.flatMap PlanEntry.view := rfl
  have hseven : ([q.state.code, q.state.reasonCode, natByte q.width] ++ natBytes q.timeout ++
      [natByte q.cursor, natByte q.entries.length]).length = 7 := rfl
  rw [hview, List.getElem?_append_right (by omega), List.getElem?_append_right (by omega), hseven,
    show 7 + 2 * k - 7 = 2 * k by omega, show 8 + 2 * k - 7 = 2 * k + 1 by omega]
  exact ⟨hfirst, hsecond⟩

/-! ### The summary (R171) -/

/-- Eight stations as a byte, the first at bit 0. -/
def octet (b : Fin 8 → Bool) : Byte :=
  natByte ((List.finRange 8).foldl (fun n j => if b j = true then n + 2 ^ j.val else n) 0)

theorem octet_bits (b : Fin 8 → Bool) (j : Fin 8) : (octet b).getLsbD j.val = b j := by
  have hall : ∀ b0 b1 b2 b3 b4 b5 b6 b7 : Bool, ∀ j : Fin 8,
      (octet [b0, b1, b2, b3, b4, b5, b6, b7].get).getLsbD j.val = [b0, b1, b2, b3, b4, b5, b6, b7].get j := by decide
  have hb : b = [b 0, b 1, b 2, b 3, b 4, b 5, b 6, b 7].get := by
    funext j
    match j with
    | 0 | 1 | 2 | 3 | 4 | 5 | 6 | 7 => rfl
  rw [hb]
  exact hall _ _ _ _ _ _ _ _ j

/-- The eight stations of a byte of the summary. -/
def eighth (k : Fin 3) (j : Fin 8) : StationId := ⟨8 * k.val + j.val, by omega⟩

theorem filter_eighth (k : Fin 3) :
    (allStations.filter fun i => decide (i.val / 8 = k.val)) = (List.finRange 8).map (eighth k) := by
  revert k
  decide

theorem setByte_eq_octet (p : StationId → Bool) (k : Fin 3) : setByte p k.val = octet fun j => p (eighth k j) := by
  have hmod (j : Fin 8) : (eighth k j).val % 8 = j.val := by simp only [eighth]; omega
  have hfilter : (allStations.filter fun i => decide (i.val / 8 = k.val) && p i) =
      ((List.finRange 8).map (eighth k)).filter p := by
    rw [← filter_eighth, List.filter_filter]
    exact List.filter_congr fun i _ => Bool.and_comm _ _
  rw [setByte, hfilter, List.foldl_filter, List.foldl_map]
  simp only [hmod]
  rfl

theorem setByte_bit (p : StationId → Bool) (i : StationId) : (setByte p (i.val / 8)).getLsbD (i.val % 8) = p i := by
  have hi : eighth ⟨i.val / 8, by omega⟩ ⟨i.val % 8, by omega⟩ = i := Fin.ext (Nat.div_add_mod i.val 8)
  have hbit := octet_bits (fun j => p (eighth ⟨i.val / 8, by omega⟩ j)) ⟨i.val % 8, by omega⟩
  rw [← setByte_eq_octet] at hbit
  rw [hbit, hi]

/-- The byte of the face conditions by class, and that of the masks. -/
theorem fourBits (a b c d : Bool) : (bitAt a 0 ||| bitAt b 1 ||| bitAt c 2 ||| bitAt d 3).getLsbD 0 = a ∧
    (bitAt a 0 ||| bitAt b 1 ||| bitAt c 2 ||| bitAt d 3).getLsbD 1 = b ∧
    (bitAt a 0 ||| bitAt b 1 ||| bitAt c 2 ||| bitAt d 3).getLsbD 2 = c ∧
    (bitAt a 0 ||| bitAt b 1 ||| bitAt c 2 ||| bitAt d 3).getLsbD 3 = d := by
  revert a b c d
  decide

theorem State.maskByte_bits (s : State) :
    s.maskByte.getLsbD 0 = s.urgentMasked ∧ s.maskByte.getLsbD 1 = s.routineMasked := by
  have hall : ∀ a b : Bool, (bitAt a 0 ||| bitAt b 1).getLsbD 0 = a ∧ (bitAt a 0 ||| bitAt b 1).getLsbD 1 = b := by decide
  exact hall _ _

/-- The station's bits stand in the three bytes of its class. -/
theorem getElem?_three {α : Type} {g : Nat → α} (rest : List α) (k : Fin 3) :
    (g 0 :: g 1 :: g 2 :: rest)[k.val]? = some (g k.val) := by
  match k with
  | 0 | 1 | 2 => rfl

theorem State.summaryView_bits (s : State) (i : StationId) :
    (s.summaryView[i.val / 8]?.map fun b => b.getLsbD (i.val % 8)) = some ((s.st i).attn.hasClass .urgent) ∧
      (s.summaryView[3 + i.val / 8]?.map fun b => b.getLsbD (i.val % 8)) = some ((s.st i).attn.hasClass .routine) := by
  have hk : i.val / 8 < 3 := by omega
  have hurgent : s.summaryView[i.val / 8]? = some (setByte (fun i => (s.st i).attn.hasClass .urgent) (i.val / 8)) :=
    getElem?_three _ ⟨_, hk⟩
  have hroutine : s.summaryView[3 + i.val / 8]? =
      some (setByte (fun i => (s.st i).attn.hasClass .routine) (i.val / 8)) := by
    rw [Nat.add_comm]
    exact getElem?_three _ ⟨_, hk⟩
  rw [hurgent, hroutine, Option.map_some, Option.map_some, setByte_bit, setByte_bit]
  exact ⟨rfl, rfl⟩

/-! ### After a reset -/

theorem Station.AtReset.pins {c : Station} (h : c.AtReset) : c.pwmDuty = 0 ∧ c.brakeReleased = false ∧
    c.dirRender = false ∧ c.clampCloseDrive = false ∧ c.clampOpenDrive = false := by
  obtain ⟨-, -, -, -, -, -, -, -, -, -, -, -, -, -, -, ⟨hmode, -⟩, hdir, -, -, hcommand, -⟩ := h
  obtain ⟨hduty, hbrake⟩ := Station.pins_idle hmode
  simp [hduty, hbrake, Station.dirRender, Station.clampCloseDrive, Station.clampOpenDrive, hdir, hcommand]

/-- Settles O13: each view byte by byte, and the pins by the drive and the clamp command. -/
theorem theViewsAndThePinsShowTheState : Obligations.TheViewsAndThePinsShowTheState := by
  intro i f s
  obtain ⟨hp0, hp1, hp2, hp3, hp4, hp5, hp6⟩ := presenceByte_bits (s.st i).vesselTag.isSome (s.st i).fittingTag.isSome
    (s.st i).band.isSome (s.st i).drive.payout.isSome (s.st i).average.isSome (s.st i).fault.isSome (s.planEntry i).isSome
  obtain ⟨hfield, hphase, hfailed⟩ := clampByte_fields (s.st i).drive.field (s.st i).phaseBit (s.st i).monitor.failed
  obtain ⟨hnu, hnr, hsu, hsr⟩ := fourBits (s.northFace.attn.hasClass .urgent) (s.northFace.attn.hasClass .routine)
    (s.southFace.attn.hasClass .urgent) (s.southFace.attn.hasClass .routine)
  refine ⟨fun status hstatus hholds => ?_, rfl, rfl, fun g hm hc => Station.pins_running hm hc, Station.pins_free,
    Station.pins_idle, decide_eq_true_iff, fun g stall hruns => ?_, decide_eq_true_iff, decide_eq_true_iff, ?_,
    rfl, rfl, rfl, congrArg some hp0, congrArg some hp1, congrArg some hp2, congrArg some hp3,
    congrArg some (hp4.trans (s.st i).average_isSome), congrArg some hp5, congrArg some hp6, rfl, rfl, rfl, rfl, rfl, rfl,
    congrArg some hfield, congrArg some hfailed, rfl, rfl, rfl, rfl, congrArg some (hphase.trans (s.st i).phaseBit_eq),
    fun hholds => ?_, rfl, rfl, rfl, rfl, rfl, congrArg some (s.st i).entryByte_state, ?_, rfl, fun k e he => ?_,
    s.summaryView_bits, congrArg some hnu, congrArg some hnr, congrArg some hsu, congrArg some hsr, ?_⟩
  · obtain rfl : status = (s.st i).bandStatus := hstatus.trans rfl
    obtain ⟨hcount, hband⟩ := Station.entryByte_fields hholds
    exact ⟨rfl, rfl, congrArg some hcount, congrArg some hband⟩
  · obtain ⟨-, hdir, -⟩ := hruns
    rw [Station.dirRender, hdir]
  · obtain ⟨hreset, -⟩ := resetPutsEveryBlockAtItsResetValues
    exact (hreset s).mono fun t ⟨hat, _⟩ => (hat.1 i).pins
  · obtain ⟨hcount, htop, hunder⟩ := holdByte_fields (s.st i).holds.length hholds
      ((s.st i).holds[0]?.any fun h : Hold => decide (h.holder = .ship))
      ((s.st i).holds[1]?.any fun h : Hold => decide (h.holder = .ship))
    rw [← any_holder, ← any_holder]
    exact ⟨congrArg some hcount, congrArg some (Prod.ext htop hunder)⟩
  · dsimp only [State.faceView]
    cases (s.face f).window <;> rfl
  · obtain ⟨hfirst, hsecond⟩ := Sequencer.view_entry he
    obtain ⟨hstatus, htimer, hlate⟩ := statusByte_fields e.status e.timer.isSome e.late
    rw [hsecond]
    exact ⟨hfirst, congrArg some hstatus, congrArg some (Prod.ext htimer hlate)⟩
  · exact congrArg some (Prod.ext s.maskByte_bits.1 s.maskByte_bits.2)

end Sys2Proof.Machine
end

section
/-! PROOF. The settings items (R80, R114, R181, R182, Table 12-6). -/

namespace Sys2Proof.Machine

/-! ### The rows of the item tables -/

theorem eq_ofNat_of_toNat {b : Byte} {n : Nat} (h : b.toNat = n) : b = BitVec.ofNat 8 n := by
  rw [← h, BitVec.ofNat_toNat, BitVec.setWidth_eq]

theorem stationItemTable_rows : ∀ r ∈ stationItemTable, StationItem.ofByte (BitVec.ofNat 8 r.2.1) = some r.1 ∧
    r.1.range = r.2.2 ∧ r.1.calibration = (decide (0x11 ≤ r.2.1) && decide (r.2.1 ≤ 0x14)) := by decide

theorem faceItemTable_rows : ∀ r ∈ faceItemTable, FaceItem.ofByte (BitVec.ofNat 8 r.2.1) = some r.1 ∧
    r.1.range = r.2.2 ∧ r.1.ofLink = decide (0x43 ≤ r.2.1) := by decide

/-- A byte that numbers no row of the table names no item. -/
theorem stationItem_ofByte_none {item : Byte} (h : ∀ r ∈ stationItemTable, r.2.1 ≠ item.toNat) :
    StationItem.ofByte item = none := by
  have hnumbers : ∀ n : Fin 30, n.val ≠ 0 → ∃ r ∈ stationItemTable, r.2.1 = n.val := by decide
  have hlarge : item.toNat = 0 ∨ 30 ≤ item.toNat := by
    refine Classical.byContradiction fun hin => ?_
    obtain ⟨r, hr, hn⟩ := hnumbers ⟨item.toNat, by omega⟩ (by simp only; omega)
    exact h r hr hn
  rw [StationItem.ofByte]
  split
  · rfl
  · exact List.getElem?_eq_none (by simp [StationItem.all]; omega)

theorem faceItem_ofByte_none {item : Byte} (h : ∀ r ∈ faceItemTable, r.2.1 ≠ item.toNat) : FaceItem.ofByte item = none := by
  have hnumbers : ∀ n : Fin 11, ∃ r ∈ faceItemTable, r.2.1 = 0x40 + n.val := by decide
  have hout : item.toNat < 0x40 ∨ 0x4B ≤ item.toNat := by
    refine Classical.byContradiction fun hin => ?_
    obtain ⟨r, hr, hn⟩ := hnumbers ⟨item.toNat - 0x40, by omega⟩
    exact h r hr (by rw [hn]; simp only; omega)
  rw [FaceItem.ofByte]
  split
  · rfl
  · exact List.getElem?_eq_none (by simp [FaceItem.all]; omega)

section
variable {k : StationItem} {number low high : Nat} (h : (k, number, low, high) ∈ stationItemTable)
include h

theorem stationItemOpen_iff (state : LineState) :
    stationItemOpen number state ↔ ¬(k.calibration = true ∧ ¬(state = .stowed ∨ state = .halted)) := by
  obtain ⟨-, -, hc⟩ := stationItemTable_rows _ h
  simp only [stationItemOpen, hc, Bool.and_eq_true, decide_eq_true_eq]
  exact ⟨fun hall ⟨⟨hlow, hhigh⟩, hno⟩ => hno (hall hlow hhigh),
    fun hno hlow hhigh => Classical.byContradiction fun hs => hno ⟨⟨hlow, hhigh⟩, hs⟩⟩

theorem stationPair_iff {v : Nat} (hv : low ≤ v) (u : StationSettings) :
    (u.put k v).pairOk k = true ↔ stationPairKept u number v := by
  cases k with
  | bandLow =>
    simp [stationItemTable] at h
    obtain ⟨rfl, rfl, rfl⟩ := h
    have hpair : (u.put .bandLow v).pairOk .bandLow = (decide (0 < v) && decide (v + 50 ≤ u.bandHigh)) := rfl
    simp [hpair, stationPairKept]
    omega
  | bandHigh =>
    simp [stationItemTable] at h
    obtain ⟨rfl, rfl, rfl⟩ := h
    have hpair : (u.put .bandHigh v).pairOk .bandHigh = (decide (0 < u.bandLow) && decide (u.bandLow + 50 ≤ v)) := rfl
    simp [hpair, stationPairKept]
  | periodMin =>
    simp [stationItemTable] at h
    obtain ⟨rfl, rfl, rfl⟩ := h
    have hpair : (u.put .periodMin v).pairOk .periodMin = decide (v ≤ u.periodMax) := rfl
    simp [hpair, stationPairKept]
  | periodMax =>
    simp [stationItemTable] at h
    obtain ⟨rfl, rfl, rfl⟩ := h
    have hpair : (u.put .periodMax v).pairOk .periodMax = decide (u.periodMin ≤ v) := rfl
    simp [hpair, stationPairKept]
  | _ =>
    simp [stationItemTable] at h
    obtain ⟨rfl, rfl, rfl⟩ := h
    simp [StationSettings.pairOk, stationPairKept]

end

section
variable {k : FaceItem} {number low high : Nat} (h : (k, number, low, high) ∈ faceItemTable)
include h

theorem faceItemOpen_iff (grant : GrantState) :
    faceItemOpen number grant ↔ ¬(k.ofLink = true ∧ grant ≠ .vacant) := by
  obtain ⟨-, -, hl⟩ := faceItemTable_rows _ h
  simp only [faceItemOpen, hl, decide_eq_true_eq]
  exact ⟨fun hall ⟨hlow, hno⟩ => hno (hall hlow),
    fun hno hlow => Classical.byContradiction fun hv => hno ⟨hlow, hv⟩⟩

theorem facePair_iff (v : Nat) (u : FaceSettings) : (u.put k v).pairOk k = true ↔ facePairKept u number v := by
  cases k with
  | bandFloor =>
    simp [faceItemTable] at h
    obtain ⟨rfl, rfl, rfl⟩ := h
    have hpair : (u.put .bandFloor v).pairOk .bandFloor = decide (v + 50 ≤ u.bandCeiling) := rfl
    simp [hpair, facePairKept]
  | bandCeiling =>
    simp [faceItemTable] at h
    obtain ⟨rfl, rfl, rfl⟩ := h
    have hpair : (u.put .bandCeiling v).pairOk .bandCeiling = decide (u.bandFloor + 50 ≤ v) := rfl
    simp [hpair, facePairKept]
  | _ =>
    simp [faceItemTable] at h
    obtain ⟨rfl, rfl, rfl⟩ := h
    simp [FaceSettings.pairOk, facePairKept]

end

/-! ### The checks and the value put (R80, R181) -/

theorem inRange_iff (r : Nat × Nat) (v : Nat) : inRange r v = true ↔ r.1 ≤ v ∧ v ≤ r.2 := by
  simp [inRange]

theorem inRange_eq_false {r : Nat × Nat} {v : Nat} (h : v < r.1 ∨ r.2 < v) : inRange r v = false :=
  Bool.eq_false_iff.mpr fun hin => by
    have := (inRange_iff r v).mp hin
    omega

section
variable {c : Station} {k : StationItem} {number low high v : Nat} (h : (k, number, low, high) ∈ stationItemTable)
include h

theorem Station.settingRefusal_range (hv : v < low ∨ high < v) : c.settingRefusal k v = some .badValue := by
  obtain ⟨-, hr, -⟩ := stationItemTable_rows _ h
  exact if_pos (inRange_eq_false (hr ▸ hv))

theorem Station.settingRefusal_state (hlow : low ≤ v) (hhigh : v ≤ high) (ho : ¬stationItemOpen number c.state) :
    c.settingRefusal k v = some .wrongState := by
  obtain ⟨-, hr, -⟩ := stationItemTable_rows _ h
  have hin : inRange k.range v = true := (inRange_iff _ _).mpr (hr ▸ ⟨hlow, hhigh⟩)
  rw [stationItemOpen_iff h, Classical.not_not] at ho
  rw [Station.settingRefusal, if_neg (by simp [hin]), if_pos ho]

theorem Station.settingRefusal_pair (hlow : low ≤ v) (hhigh : v ≤ high) (ho : stationItemOpen number c.state)
    (hp : ¬stationPairKept c.settings number v) : c.settingRefusal k v = some .badValue := by
  obtain ⟨-, hr, -⟩ := stationItemTable_rows _ h
  have hin : inRange k.range v = true := (inRange_iff _ _).mpr (hr ▸ ⟨hlow, hhigh⟩)
  rw [stationItemOpen_iff h] at ho
  rw [← stationPair_iff h hlow, Bool.not_eq_true] at hp
  rw [Station.settingRefusal, if_neg (by simp [hin]), if_neg ho, if_pos hp]

theorem Station.settingRefusal_accepted (hlow : low ≤ v) (hhigh : v ≤ high) (ho : stationItemOpen number c.state)
    (hp : stationPairKept c.settings number v) : c.settingRefusal k v = none := by
  obtain ⟨-, hr, -⟩ := stationItemTable_rows _ h
  have hin : inRange k.range v = true := (inRange_iff _ _).mpr (hr ▸ ⟨hlow, hhigh⟩)
  rw [stationItemOpen_iff h] at ho
  rw [← stationPair_iff h hlow] at hp
  rw [Station.settingRefusal, if_neg (by simp [hin]), if_neg ho, if_neg (by simp [hp])]

end

section
variable {x : FaceState} {k : FaceItem} {number low high v : Nat} (h : (k, number, low, high) ∈ faceItemTable)
include h

theorem FaceState.settingRefusal_range (hv : v < low ∨ high < v) : x.settingRefusal k v = some .badValue := by
  obtain ⟨-, hr, -⟩ := faceItemTable_rows _ h
  exact if_pos (inRange_eq_false (hr ▸ hv))

theorem FaceState.settingRefusal_grant (hlow : low ≤ v) (hhigh : v ≤ high) (ho : ¬faceItemOpen number x.grant) :
    x.settingRefusal k v = some .wrongState := by
  obtain ⟨-, hr, -⟩ := faceItemTable_rows _ h
  have hin : inRange k.range v = true := (inRange_iff _ _).mpr (hr ▸ ⟨hlow, hhigh⟩)
  rw [faceItemOpen_iff h, Classical.not_not] at ho
  rw [FaceState.settingRefusal, if_neg (by simp [hin]), if_pos ho]

theorem FaceState.settingRefusal_pair (hlow : low ≤ v) (hhigh : v ≤ high) (ho : faceItemOpen number x.grant)
    (hp : ¬facePairKept x.settings number v) : x.settingRefusal k v = some .badValue := by
  obtain ⟨-, hr, -⟩ := faceItemTable_rows _ h
  have hin : inRange k.range v = true := (inRange_iff _ _).mpr (hr ▸ ⟨hlow, hhigh⟩)
  rw [faceItemOpen_iff h] at ho
  rw [← facePair_iff h, Bool.not_eq_true] at hp
  rw [FaceState.settingRefusal, if_neg (by simp [hin]), if_neg ho, if_pos hp]

theorem FaceState.settingRefusal_accepted (hlow : low ≤ v) (hhigh : v ≤ high) (ho : faceItemOpen number x.grant)
    (hp : facePairKept x.settings number v) : x.settingRefusal k v = none := by
  obtain ⟨-, hr, -⟩ := faceItemTable_rows _ h
  have hin : inRange k.range v = true := (inRange_iff _ _).mpr (hr ▸ ⟨hlow, hhigh⟩)
  rw [faceItemOpen_iff h] at ho
  rw [← facePair_iff h] at hp
  rw [FaceState.settingRefusal, if_neg (by simp [hin]), if_neg ho, if_neg (by simp [hp])]

end

/-! ### What a value put leaves -/

/-- The record with the value in the settings alone. -/
theorem Station.settings_putSetting (c : Station) (k : StationItem) (v : Nat) :
    (c.putSetting k v).settings.get k = v ∧
      ∀ j, j ≠ k → (c.putSetting k v).settings.get j = c.settings.get j := by
  unfold Station.putSetting
  split
  · next heq => exact ⟨heq, fun _ _ => rfl⟩
  · dsimp only
    split <;> exact ⟨StationSettings.get_put_same _ k v, fun j hj => StationSettings.get_put_ne _ v hj⟩

theorem Station.putSetting_frame (c : Station) (k : StationItem) (v : Nat) : c.putSetting k v =
    { c with settings := (c.putSetting k v).settings, monitor := (c.putSetting k v).monitor } := by
  unfold Station.putSetting
  split
  · rfl
  · dsimp only
    split <;> rfl

theorem Station.putSetting_equal {c : Station} {k : StationItem} {v : Nat} (h : c.settings.get k = v) :
    c.putSetting k v = c := if_pos h

theorem Station.monitor_putSetting {c : Station} {k : StationItem} (hk : k.calibration = false) (v : Nat) :
    (c.putSetting k v).monitor = c.monitor := by
  unfold Station.putSetting
  split <;> simp [hk]

/-- A calibration change empties the samples (R80). -/
theorem Station.monitor_putSetting_calibration {c : Station} {k : StationItem} {v : Nat} (hk : k.calibration = true)
    (hv : c.settings.get k ≠ v) : (c.putSetting k v).monitor =
      { c.monitor with samples := [], kept := if c.monitor.failed then [] else c.monitor.kept } := by
  rw [Station.putSetting, if_neg hv]
  simp [hk]

theorem FaceState.settings_putSetting (x : FaceState) (k : FaceItem) (v : Nat) :
    (x.putSetting k v).settings.get k = v ∧
      ∀ j, j ≠ k → (x.putSetting k v).settings.get j = x.settings.get j := by
  unfold FaceState.putSetting
  split
  · next heq => exact ⟨heq, fun _ _ => rfl⟩
  · exact ⟨FaceSettings.get_put_same _ k v, fun j hj => FaceSettings.get_put_ne _ v hj⟩

theorem FaceState.putSetting_frame (x : FaceState) (k : FaceItem) (v : Nat) : x.putSetting k v =
    { x with
      settings := (x.putSetting k v).settings
      link := { x.link with earlier := (x.putSetting k v).link.earlier } } := by
  unfold FaceState.putSetting
  split
  · rfl
  · dsimp only
    split <;> rfl

theorem FaceState.putSetting_equal {x : FaceState} {k : FaceItem} {v : Nat} (h : x.settings.get k = v) :
    x.putSetting k v = x := if_pos h

/-! ### The two requests -/

theorem settingPayload_half (scope item : Byte) (value : Half) :
    settingPayload scope item value.toNat = [scope, item] ++ halfBytes value := by
  simp [settingPayload, natBytes]

section
variable {s : State} (h : s.HostReady) {i : StationId} {f : Face} {item : Byte} {value : Half}
include h

theorem hostComes_setSetting_unnamed {target : Scoped} (hn : namedItem target item = none) :
    HostComes (.setSetting target item value) s 4 (s, refusal .badValue) := by
  dsimp only [HostComes, exec, execSetSetting]
  refine (hostRequest_ready h (i := .setSetting target item value) rfl _).trans ?_
  simp only [hn]
  rfl

theorem hostComes_getSetting_unnamed {target : Scoped} (hn : namedItem target item = none) :
    HostComes (.getSetting target item) s 2 (s, refusal .badValue) := by
  dsimp only [HostComes, exec, execGetSetting]
  refine (hostRequest_ready h (i := .getSetting target item) rfl _).trans ?_
  simp only [hn]
  rfl

theorem hostComes_getSetting_station {k : StationItem} (hk : StationItem.ofByte item = some k) :
    HostComes (.getSetting (.station i) item) s 2 (s, ⟨.ok, [0, item] ++ natBytes ((s.st i).settings.get k)⟩) := by
  dsimp only [HostComes, exec, execGetSetting]
  refine (hostRequest_ready h (i := .getSetting (.station i) item) rfl _).trans ?_
  simp only [namedItem, hk, Option.map_some]
  rfl

theorem hostComes_getSetting_face {k : FaceItem} (hk : FaceItem.ofByte item = some k) :
    HostComes (.getSetting (.face f) item) s 2 (s, ⟨.ok, [1, item] ++ natBytes ((s.face f).settings.get k)⟩) := by
  dsimp only [HostComes, exec, execGetSetting]
  refine (hostRequest_ready h (i := .getSetting (.face f) item) rfl _).trans ?_
  simp only [namedItem, hk, Option.map_some]
  rfl

theorem hostComes_setSetting_station_refused {k : StationItem} (hk : StationItem.ofByte item = some k) {status : Status}
    (hr : (s.st i).settingRefusal k value.toNat = some status) :
    HostComes (.setSetting (.station i) item value) s 4 (s, refusal status) := by
  dsimp only [HostComes, exec, execSetSetting]
  refine (hostRequest_ready h (i := .setSetting (.station i) item value) rfl _).trans ?_
  simp only [namedItem, hk, Option.map_some, hr]
  rfl

theorem hostTakes_setSetting {k : StationItem} (hk : StationItem.ofByte item = some k)
    (hr : (s.st i).settingRefusal k value.toNat = none) :
    HostTakes (.setSetting (.station i) item value) s i 4
      ((s.st i).putSetting k value.toNat, ⟨.ok, [0, item] ++ halfBytes value⟩) := by
  rw [← settingPayload_half]
  dsimp only [HostTakes, exec, execSetSetting]
  refine (hostRequest_ready h (i := .setSetting (.station i) item value) rfl _).trans ?_
  simp only [namedItem, hk, Option.map_some, hr]
  rfl

theorem hostComes_setSetting_face_refused {k : FaceItem} (hk : FaceItem.ofByte item = some k) {status : Status}
    (hr : (s.face f).settingRefusal k value.toNat = some status) :
    HostComes (.setSetting (.face f) item value) s 4 (s, refusal status) := by
  dsimp only [HostComes, exec, execSetSetting]
  refine (hostRequest_ready h (i := .setSetting (.face f) item value) rfl _).trans ?_
  simp only [namedItem, hk, Option.map_some, hr]
  rfl

theorem hostComes_setSetting_face {k : FaceItem} (hk : FaceItem.ofByte item = some k)
    (hr : (s.face f).settingRefusal k value.toNat = none) :
    HostComes (.setSetting (.face f) item value) s 4
      (s.onFace f fun x => x.putSetting k value.toNat, ⟨.ok, [1, item] ++ halfBytes value⟩) := by
  rw [← settingPayload_half]
  dsimp only [HostComes, exec, execSetSetting]
  refine (hostRequest_ready h (i := .setSetting (.face f) item value) rfl _).trans ?_
  simp only [namedItem, hk, Option.map_some, hr]
  rfl

end

/-- Settles O30: each row's item, the checks in their order, and the value put. -/
theorem settingsAreStoredAndRead : Obligations.SettingsAreStoredAndRead := by
  intro i f item value s h
  refine ⟨fun k number low high hrow hitem => ?_, fun k number low high hrow hitem => ?_, fun hno => ?_, fun hno => ?_,
    (hostComes_setSetting_unnamed h rfl).refusing rfl rfl, (hostComes_getSetting_unnamed h rfl).refusing rfl rfl,
    fun scope target => ⟨(hostComes_setSetting_unnamed h rfl).refusing rfl rfl,
      (hostComes_getSetting_unnamed h rfl).refusing rfl rfl⟩⟩
  · obtain ⟨hbyte, -, hcal⟩ := stationItemTable_rows _ hrow
    have hk : StationItem.ofByte item = some k := by rw [eq_ofNat_of_toNat hitem]; exact hbyte
    simp only at hcal
    refine ⟨(hostComes_getSetting_station h hk).reading rfl rfl, fun hlow hhigh ho hp => ?_, fun hv => ?_,
      fun hlow hhigh => ⟨fun ho => ?_, fun ho hp => ?_⟩⟩
    · have hr := Station.settingRefusal_accepted hrow hlow hhigh ho hp
      refine ((hostTakes_setSetting h hk hr).taking rfl rfl).mono fun t ⟨honly, hans, htakes⟩ => ?_
      have hreports : ((s.st i).putSetting k value.toNat).toSequencer = (s.st i).toSequencer := by
        rw [Station.putSetting_frame]
      rw [htakes.eq_of_silent hreports]
      obtain ⟨hget, hothers⟩ := (s.st i).settings_putSetting k value.toNat
      exact ⟨honly, hans, hget, hothers, (s.st i).putSetting_frame k _, Station.putSetting_equal,
        fun hout => Station.monitor_putSetting (by rw [hcal, Bool.and_eq_false_iff]; simp; omega) _,
        fun hin hin' hne => Station.monitor_putSetting_calibration (by rw [hcal]; simp [hin, hin']) hne⟩
    · exact (hostComes_setSetting_station_refused h hk (Station.settingRefusal_range hrow hv)).refusing rfl rfl
    · exact (hostComes_setSetting_station_refused h hk (Station.settingRefusal_state hrow hlow hhigh ho)).refusing rfl rfl
    · exact (hostComes_setSetting_station_refused h hk (Station.settingRefusal_pair hrow hlow hhigh ho hp)).refusing rfl rfl
  · obtain ⟨hbyte, -, -⟩ := faceItemTable_rows _ hrow
    have hk : FaceItem.ofByte item = some k := by rw [eq_ofNat_of_toNat hitem]; exact hbyte
    refine ⟨(hostComes_getSetting_face h hk).reading rfl rfl, fun hlow hhigh ho hp => ?_, fun hv => ?_,
      fun hlow hhigh => ⟨fun ho => ?_, fun ho hp => ?_⟩⟩
    · have hr := FaceState.settingRefusal_accepted hrow hlow hhigh ho hp
      refine ((hostComes_setSetting_face h hk hr).onFace rfl rfl).mono fun t ⟨honly, hans, hface⟩ => ?_
      rw [hface]
      obtain ⟨hget, hothers⟩ := (s.face f).settings_putSetting k value.toNat
      exact ⟨honly, hans, hget, hothers, (s.face f).putSetting_frame k _, FaceState.putSetting_equal⟩
    · exact (hostComes_setSetting_face_refused h hk (FaceState.settingRefusal_range hrow hv)).refusing rfl rfl
    · exact (hostComes_setSetting_face_refused h hk (FaceState.settingRefusal_grant hrow hlow hhigh ho)).refusing rfl rfl
    · exact (hostComes_setSetting_face_refused h hk (FaceState.settingRefusal_pair hrow hlow hhigh ho hp)).refusing rfl rfl
  · have hn : namedItem (.station i) item = none := by rw [namedItem, stationItem_ofByte_none hno]; rfl
    exact ⟨(hostComes_setSetting_unnamed h hn).refusing rfl rfl, (hostComes_getSetting_unnamed h hn).refusing rfl rfl⟩
  · have hn : namedItem (.face f) item = none := by rw [namedItem, faceItem_ofByte_none hno]; rfl
    exact ⟨(hostComes_setSetting_unnamed h hn).refusing rfl rfl, (hostComes_getSetting_unnamed h hn).refusing rfl rfl⟩

end Sys2Proof.Machine
end

section
/-! PROOF. The requests of the host to a departure plan (R120 to R123, R131, R132, R134, R135). -/

namespace Sys2Proof.Machine

/-! ### What the sequencer's operations make of its face -/

/-- The face after the test for completion (R131). -/
def FaceState.tested (x : FaceState) : FaceState :=
  if x.sequencer.state = .running ∧ x.sequencer.complete = true then
    { x with
      sequencer := { x.sequencer with state := .done }.dropOwed
      grant := if x.grant = .departing then .cleared else x.grant
      attn := x.attn.put .planDone true }
  else x

/-- The face after a pause on a failure (R133). -/
def FaceState.failPaused (x : FaceState) : FaceState :=
  match x.sequencer.state with
  | .running | .paused .host => { x with
      sequencer := { x.sequencer with state := .paused .failed, walkOwed := false }
      attn := x.attn.put .planPaused true }
  | .paused .failed | .idle | .done => x

/-- The face after the walk has tested its conditions (R124). -/
def FaceState.looked (x : FaceState) : FaceState := { x with sequencer := x.sequencer.look }

theorem State.face_onSeq_same (s : State) (f : Face) (g : Sequencer → Sequencer) :
    (s.onSeq f g).face f = { s.face f with sequencer := g (s.seq f) } := State.face_onFace_same _ _ _

theorem State.face_onSeq_ne (s : State) {f g : Face} (k : Sequencer → Sequencer) (h : g ≠ f) :
    (s.onSeq f k).face g = s.face g := State.face_onFace_ne _ _ h

theorem State.face_testComplete (s : State) (f : Face) : (s.testComplete f).face f = (s.face f).tested := by
  by_cases h : (s.seq f).state = .running ∧ (s.seq f).complete = true
  · have hx : (s.face f).tested = _ := if_pos h
    rw [State.testComplete]
    dsimp only
    rw [if_pos h, State.face_dropReports, State.latchFace_eq, State.face_onFace_same, State.face_onFace_same, hx]
    rfl
  · have hx : (s.face f).tested = s.face f := if_neg h
    rw [State.testComplete]
    dsimp only
    rw [if_neg h, hx]

theorem State.face_failPause (s : State) (f : Face) : (s.failPause f).face f = (s.face f).failPaused := by
  have hstate : (s.face f).sequencer.state = (s.seq f).state := rfl
  have hpause : ((s.onSeq f fun q => { q with state := .paused .failed, walkOwed := false }).latchFace f .planPaused).face f =
      { s.face f with
        sequencer := { s.seq f with state := .paused .failed, walkOwed := false }
        attn := (s.face f).attn.put .planPaused true } := by
    rw [State.latchFace_eq, State.face_onFace_same, State.face_onSeq_same]
  rw [State.failPause, FaceState.failPaused, hstate]
  cases hs : (s.seq f).state with
  | running => exact hpause
  | idle => rfl
  | done => rfl
  | paused r =>
    cases r with
    | host => exact hpause
    | failed => rfl

theorem State.face_lookOn (s : State) (f : Face) : (s.lookOn f).face f = (s.face f).looked :=
  State.face_onSeq_same s f _

theorem State.onlyPlan_latchFace (s : State) (f : Face) (k : FaceCondition) : s.OnlyPlan (s.latchFace f k) f :=
  s.onlyPlan_onFace f _

theorem State.onlyPlan_testComplete (s : State) (f : Face) : s.OnlyPlan (s.testComplete f) f := by
  unfold State.testComplete
  dsimp only
  split
  · exact ((s.onlyPlan_onFace f _).trans (State.onlyPlan_latchFace _ f _)).trans (State.onlyPlan_dropReports _ f)
  · exact .refl s f

theorem State.onlyPlan_failPause (s : State) (f : Face) : s.OnlyPlan (s.failPause f) f := by
  unfold State.failPause
  split
  · exact (s.onlyPlan_onSeq f _).trans (State.onlyPlan_latchFace _ f _)
  · exact (s.onlyPlan_onSeq f _).trans (State.onlyPlan_latchFace _ f _)
  · exact .refl s f
  · exact .refl s f
  · exact .refl s f

theorem State.onlyPlan_lookOn (s : State) (f : Face) : s.OnlyPlan (s.lookOn f) f := s.onlyPlan_onSeq f _

theorem FaceState.tested_of_not {x : FaceState} (h : ¬(x.sequencer.state = .running ∧ x.sequencer.complete = true)) :
    x.tested = x := if_neg h

theorem FaceState.tested_done {x : FaceState} (h : x.sequencer.state = .running) (hc : x.sequencer.complete = true) :
    x.tested = { x with
      sequencer := { x.sequencer with state := .done }.dropOwed
      grant := if x.grant = .departing then .cleared else x.grant
      attn := x.attn.put .planDone true } := if_pos ⟨h, hc⟩

theorem Sequencer.complete_iff (q : Sequencer) :
    q.complete = true ↔ q.cursor = q.entries.length ∧ ∀ e ∈ q.entries, e.status.finished = true := by
  simp [Sequencer.complete]

theorem Sequencer.active_iff (q : Sequencer) : q.active = true ↔ q.state = .running ∨ ∃ r, q.state = .paused r := by
  unfold Sequencer.active
  cases q.state <;> simp

/-- A sequencer that owes no claim has none to settle. -/
theorem State.settleSeq_nothing {s : State} {f : Face} (hr : (s.seq f).returnsOwed = []) (hs : (s.seq f).startsOwed = [])
    (hw : (s.seq f).walkOwed = false) : s.settleSeq f = s := by
  simp [State.settleSeq, hr, hs, State.walkMany, hw]

/-! ### SET_PLAN (R121) -/

theorem planStations_listed {w : Option Window} {list : List StationId} (h : ∀ i ∈ list, inWindow w i = true) :
    planStations w (list.map fun i => natByte i.val) = some list := by
  induction list with
  | nil => rfl
  | cons i rest ih =>
    have hi : inWindow w i = true := h i List.mem_cons_self
    simp only [List.map_cons, planStations, stationOf_natByte, ih fun j hj => h j (List.mem_cons_of_mem _ hj), hi, if_true]

/-- The stations read are those of the bytes, each in the window. -/
theorem planStations_some {w : Option Window} {bytes : List Byte} {is : List StationId}
    (h : planStations w bytes = some is) :
    is.map Fin.val = bytes.map BitVec.toNat ∧ ∀ i ∈ is, inWindow w i = true := by
  induction bytes generalizing is with
  | nil =>
    cases h
    exact ⟨rfl, fun _ hi => by cases hi⟩
  | cons b rest ih =>
    unfold planStations at h
    split at h
    · next i more hb hrest =>
      split at h
      · next hi =>
        cases h
        obtain ⟨hvals, hin⟩ := ih hrest
        have hval : i.val = b.toNat := by
          unfold stationOf at hb
          split at hb
          · cases hb
            rfl
          · cases hb
        exact ⟨by rw [List.map_cons, List.map_cons, hval, hvals], List.forall_mem_cons.mpr ⟨hi, hin⟩⟩
      · cases h
    · cases h

theorem noRepeat_iff (is : List StationId) : noRepeat is = true ↔ is.Nodup := by
  induction is with
  | nil => simp [noRepeat]
  | cons i rest ih => simp [noRepeat, ih]

theorem planNumbersOk_iff (width : Byte) (timeout : Half) (count : Nat) : planNumbersOk width timeout count = true ↔
    1 ≤ count ∧ count ≤ 16 ∧ 1 ≤ width.toNat ∧ width.toNat ≤ 4 ∧ 10 ≤ timeout.toNat ∧ timeout.toNat ≤ 600 := by
  simp only [planNumbersOk, Bool.and_eq_true, decide_eq_true_iff, and_assoc]
  rfl

/-- What SET_PLAN comes to. -/
def State.planSet (s : State) (f : Face) (width : Byte) (timeout : Half) (bytes : List Byte) : State × Answer :=
  if (s.seq f).active then (s, refusal .wrongState)
  else if (s.face f).window = none then (s, refusal .wrongState)
  else if planNumbersOk width timeout bytes.length = false then (s, refusal .badValue)
  else
    match planStations (s.face f).window bytes with
    | none => (s, refusal .badValue)
    | some is =>
      if noRepeat is = false then (s, refusal .badValue)
      else ((s.settleSeq f).onSeq f fun q => q.planned width.toNat timeout.toNat is, ⟨.ok, []⟩)

theorem hostComes_setPlan {s : State} (h : s.HostReady) (f : Face) (width : Byte) (timeout : Half) (bytes : List Byte) :
    HostComes (.setPlan f width timeout bytes) s (3 + bytes.length) (s.planSet f width timeout bytes) := by
  have hlen : (width :: halfBytes timeout ++ bytes).length = 3 + bytes.length := by simp [halfBytes]; omega
  rw [← hlen]
  dsimp only [HostComes, exec, execSetPlan]
  refine (hostRequest_ready h (i := .setPlan f width timeout bytes) rfl _).trans ?_
  unfold State.planSet State.seq
  cases planStations (s.face f).window bytes <;> rfl

/-- Settles O31: the five checks, and the plan written. -/
theorem setPlanWritesThePlan : Obligations.SetPlanWritesThePlan := by
  intro f width timeout list bytes s h
  have hcome := hostComes_setPlan h f width timeout bytes
  refine ⟨fun hidle hr hs hw hwin hne hmax hnodup hin hbytes hw1 hw4 ht1 ht6 => ?_, fun hno => ?_,
    fun hidle hwin hbad => ?_⟩
  · subst hbytes
    have hlen : (list.map fun i => natByte i.val).length = list.length := List.length_map _
    have hnumbers : planNumbersOk width timeout list.length = true :=
      (planNumbersOk_iff _ _ _).mpr ⟨List.length_pos_iff.mpr hne, hmax, hw1, hw4, ht1, ht6⟩
    have hset : s.planSet f width timeout (list.map fun i => natByte i.val) =
        (s.onFace f fun x => { x with sequencer := x.sequencer.planned width.toNat timeout.toNat list }, ⟨.ok, []⟩) := by
      rw [State.planSet, hlen, if_neg (by simp [hidle]), if_neg hwin, if_neg (by simp [hnumbers]), planStations_listed hin]
      simp only
      rw [if_neg (by simp [(noRepeat_iff list).mpr hnodup]), State.settleSeq_nothing hr hs hw]
      rfl
    rw [hlen] at hcome
    refine (hcome.onFace hset rfl).mono fun t ⟨honly, hans, hface⟩ => ?_
    simp only [State.seq, hface]
    exact ⟨honly, hans, trivial, rfl, rfl, rfl, rfl, rfl⟩
  · refine hcome.refusing ?_ rfl
    rw [State.planSet]
    by_cases hact : (s.seq f).active = true
    · rw [if_pos hact]
    · rw [if_neg hact, if_pos (hno.resolve_left hact)]
  · refine hcome.refusing ?_ rfl
    rw [State.planSet, if_neg (by simp [hidle]), if_neg hwin]
    by_cases hnumbers : planNumbersOk width timeout bytes.length = true
    · rw [if_neg (by simp [hnumbers])]
      obtain ⟨h1, h16, hw1, hw4, ht1, ht6⟩ := (planNumbersOk_iff _ _ _).mp hnumbers
      cases hread : planStations (s.face f).window bytes with
      | none => rfl
      | some is =>
        obtain ⟨hvals, hin⟩ := planStations_some hread
        have hrepeat : noRepeat is = false := by
          rw [← Bool.not_eq_true, noRepeat_iff]
          intro hnodup
          have hinodup : (is.map Fin.val).Nodup := List.pairwise_map.mpr (hnodup.imp fun hne he => hne (Fin.ext he))
          have hbnodup : (bytes.map BitVec.toNat).Nodup := hvals ▸ hinodup
          rcases hbad with rfl | hlarge | hw | hw | ht | ht | ⟨b, hb, hout⟩ | hdup
          · simp at h1
          · omega
          · omega
          · omega
          · omega
          · omega
          · obtain ⟨i, hi, hval⟩ : ∃ i ∈ is, i.val = b.toNat :=
              List.mem_map.mp (hvals ▸ List.mem_map.mpr ⟨b, hb, rfl⟩)
            exact absurd (hin i hi) (by simp [hout i hval])
          · exact hdup ((List.pairwise_map.mp hbnodup).imp fun hne he => hne (congrArg BitVec.toNat he))
        exact if_pos hrepeat
    · rw [if_pos (by simpa using hnumbers)]

/-! ### PAUSE, RESUME and ABORT_DEPART (R131, R132, R134, R135) -/

/-- What PAUSE comes to. -/
def State.pauseTaken (s : State) (f : Face) : State × Answer :=
  if (s.seq f).state ≠ .running then (s, refusal .wrongState)
  else if ((s.settleSeq f).seq f).state ≠ .running then (s.settleSeq f, refusal .wrongState)
  else (((s.settleSeq f).onSeq f fun q => { q with state := .paused .host }.dropOwed).latchFace f .planPaused, ⟨.ok, []⟩)

theorem hostComes_pause {s : State} (h : s.HostReady) (f : Face) : HostComes (.pause f) s 0 (s.pauseTaken f) := by
  dsimp only [HostComes, exec, execPause]
  exact hostRequest_ready h (i := .pause f) rfl _

/-- What ABORT_DEPART comes to. -/
def State.abortTaken (s : State) (f : Face) : State × Answer :=
  if (s.seq f).active = false then (s, refusal .wrongState)
  else if ((s.settleSeq f).seq f).active = false then (s.settleSeq f, refusal .wrongState)
  else ((s.settleSeq f).abortPlan f, ⟨.ok, []⟩)

theorem hostComes_abortDepart {s : State} (h : s.HostReady) (f : Face) :
    HostComes (.abortDepart f) s 0 (s.abortTaken f) := by
  dsimp only [HostComes, exec, execAbortDepart]
  exact hostRequest_ready h (i := .abortDepart f) rfl _

/-- What RESUME comes to. -/
def State.resumeTaken (s : State) (f : Face) : State × Answer :=
  match (s.seq f).state with
  | .paused _ => (s.resumed f, ⟨.ok, []⟩)
  | .idle | .running | .done => (s, refusal .wrongState)

theorem hostComes_resume {s : State} (h : s.HostReady) (f : Face) : HostComes (.resume f) s 0 (s.resumeTaken f) := by
  dsimp only [HostComes, exec, execResume]
  refine (hostRequest_ready h (i := .resume f) rfl _).trans ?_
  unfold State.resumeTaken
  cases (s.seq f).state <;> rfl

theorem State.onlyPlan_abortPlan (s : State) (f : Face) : s.OnlyPlan (s.abortPlan f) f :=
  (s.onlyPlan_onFace f _).trans (State.onlyPlan_dropReports _ f)

theorem State.face_abortPlan (s : State) (f : Face) : (s.abortPlan f).face f = { s.face f with
    sequencer := (s.seq f).aborted
    grant := if (s.face f).grant = .departing then .moored else (s.face f).grant } := by
  rw [State.abortPlan, State.face_dropReports, State.face_onFace_same]
  rfl

/-- A resumed plan, before its completion is tested. -/
def Sequencer.restarted (q : Sequencer) : Sequencer := { q with state := .running, startsOwed := q.returned }

theorem State.face_resumed (s : State) (f : Face) : (s.resumed f).face f =
    { s.face f with sequencer := (s.seq f).restarted }.tested.looked := by
  rw [State.resumed, State.face_lookOn, State.face_testComplete, State.face_onSeq_same]
  rfl

theorem State.onlyPlan_resumed (s : State) (f : Face) : s.OnlyPlan (s.resumed f) f :=
  ((s.onlyPlan_onSeq f _).trans (State.onlyPlan_testComplete _ f)).trans (State.onlyPlan_lookOn _ f)

/-- Where the plan is not complete, only the face changes. -/
theorem State.resumed_open {s : State} {f : Face} (h : (s.seq f).complete = false) :
    s.resumed f = (s.onSeq f Sequencer.restarted).lookOn f := by
  have hc : ((s.onSeq f Sequencer.restarted).seq f).complete = false := by
    rw [State.seq_onSeq_same]
    exact h
  have ht : (s.onSeq f Sequencer.restarted).testComplete f = s.onSeq f Sequencer.restarted :=
    if_neg fun ht => absurd (hc.symm.trans ht.2) Bool.false_ne_true
  exact congrArg (State.lookOn · f) ht

theorem Sequencer.inactive_states {q : Sequencer} (h : q.active = false) : q.state = .idle ∨ q.state = .done := by
  unfold Sequencer.active at h
  cases hs : q.state <;> simp_all

/-- Settles O33: each control request by the state of the sequencer, which owes no claim. -/
theorem pauseResumeAndAbortControlThePlan : Obligations.PauseResumeAndAbortControlThePlan := by
  intro f s h
  refine ⟨fun hrun hw hs hr => ?_, fun hact hw hs hr => ?_, fun hno => ?_, fun hno => ?_,
    fun reason hpaused => ⟨fun hc => ?_, fun hc => ?_⟩, fun hno => ?_⟩
  · have htaken : s.pauseTaken f = (s.onFace f fun x => { x with
        sequencer := { s.seq f with state := .paused .host }.dropOwed, attn := (s.face f).attn.put .planPaused true },
        ⟨.ok, []⟩) := by
      rw [State.pauseTaken, if_neg (not_not_intro hrun), State.settleSeq_nothing hr hs hw, if_neg (not_not_intro hrun)]
      cases f <;> rfl
    refine ((hostComes_pause h f).onFace htaken rfl).mono fun t ⟨honly, hans, hface⟩ => ⟨honly, hans, ?_⟩
    rw [hface, Sequencer.dropOwed, ← hw, ← hs]
  · have htaken : s.abortTaken f = (s.abortPlan f, ⟨.ok, []⟩) := by
      rw [State.abortTaken, if_neg (by simp [hact]), State.settleSeq_nothing hr hs hw, if_neg (by simp [hact])]
    refine ((hostComes_abortDepart h f).onlyPlan htaken (s.onlyPlan_abortPlan f) rfl).mono
      fun t ⟨hans, hfaces, hdevice, hst, hface⟩ => ?_
    rw [State.face_abortPlan] at hface
    rw [State.seq, hface]
    exact ⟨hans, hfaces, hdevice, hst, rfl, rfl, rfl, rfl, rfl, rfl, rfl⟩
  · exact (hostComes_pause h f).refusing (if_pos hno) rfl
  · exact (hostComes_abortDepart h f).refusing (if_pos hno) rfl
  · have htaken : s.resumeTaken f = (s.onFace f fun x => { x with sequencer := (s.seq f).restarted.look }, ⟨.ok, []⟩) := by
      rw [State.resumeTaken, hpaused]
      simp only
      rw [State.resumed_open hc]
      cases f <;> rfl
    refine ((hostComes_resume h f).onFace htaken rfl).mono fun t ⟨honly, hans, hface⟩ => ?_
    rw [State.seq, hface]
    refine ⟨honly, hans, rfl, rfl, rfl, rfl, rfl, rfl, Sequencer.canLook_iff.trans ?_⟩
    exact ⟨fun ⟨_, hroom, hlt⟩ => ⟨hroom, hlt⟩, fun ⟨hroom, hlt⟩ => ⟨rfl, hroom, hlt⟩⟩
  · have htaken : s.resumeTaken f = (s.resumed f, ⟨.ok, []⟩) := by
      rw [State.resumeTaken, hpaused]
    refine ((hostComes_resume h f).onlyPlan htaken (s.onlyPlan_resumed f) rfl).mono fun t ⟨hans, _, _, _, hface⟩ => ?_
    have hdone := FaceState.tested_done (x := { s.face f with sequencer := (s.seq f).restarted }) rfl hc
    replace hface := (hface.trans (s.face_resumed f)).trans (congrArg FaceState.looked hdone)
    rw [State.seq, hface]
    exact ⟨hans, rfl, rfl, rfl, rfl⟩
  · refine (hostComes_resume h f).refusing ?_ rfl
    have hstate : (s.seq f).state = .idle ∨ (s.seq f).state = .running ∨ (s.seq f).state = .done := by
      rcases hno with hno | hno
      · rcases Sequencer.inactive_states hno with hs | hs
        · exact .inl hs
        · exact .inr (.inr hs)
      · exact .inr (.inl hno)
    rw [State.resumeTaken]
    rcases hstate with hs | hs | hs <;> rw [hs]

end Sys2Proof.Machine
end

section
/-! PROOF. What one look of the walk makes of its face and of the records (R124, R125, R131, R133). -/

namespace Sys2Proof.Machine

/-- The face after the look at the entry of station `i`, whose record gives `status`. -/
def FaceState.afterLook (x : FaceState) (i : StationId) (status : EntryStatus) : FaceState :=
  let y : FaceState := { x with sequencer := x.sequencer.walked i status }
  let z := (if status = .failed then y.failPaused else y).tested
  if status.advances then z.looked else z

/-- The part with the walk claim made, before the tests that follow it. -/
def State.walkClaimed (s : State) (f : Face) (i : StationId) : State :=
  (s.onSeq f fun q => q.walked i (walkStatus (s.st i))).onLine i fun c => { c with toSequencer := [] }.takeWalk

/-- The tests that follow a walk claim. -/
def State.walkTested (s : State) (f : Face) (status : EntryStatus) : State :=
  let t := (if status = .failed then s.failPause f else s).testComplete f
  if status.advances then t.lookOn f else t

theorem State.lookAt_eq (s : State) (f : Face) (i : StationId) :
    s.lookAt f i = (s.walkClaimed f i).walkTested f (walkStatus (s.st i)) := rfl

theorem State.face_walkClaimed_same (s : State) (f : Face) (i : StationId) : (s.walkClaimed f i).face f =
    { s.face f with sequencer := (s.seq f).walked i (walkStatus (s.st i)) } := by
  rw [State.walkClaimed, State.face_onLine, State.face_onSeq_same]

theorem State.face_walkClaimed_ne (s : State) {f g : Face} (i : StationId) (h : g ≠ f) :
    (s.walkClaimed f i).face g = s.face g := by
  rw [State.walkClaimed, State.face_onLine, State.face_onSeq_ne _ _ h]

theorem State.st_walkClaimed_ne (s : State) (f : Face) {i j : StationId} (h : j ≠ i) :
    (s.walkClaimed f i).st j = s.st j := by
  rw [State.walkClaimed, State.st_onLine_ne _ _ h, State.onSeq, State.st_onFace]

/-- A field of the record that no report enters is what the walk claim makes it. -/
theorem State.st_walkClaimed_field {α : Type} (s : State) (f : Face) (i : StationId) (view : Station → α)
    (h : ∀ c q, view { c with toSequencer := q } = view c) :
    view ((s.walkClaimed f i).st i) = view { s.st i with toSequencer := [] }.takeWalk := by
  rw [State.walkClaimed, State.st_onLine_field _ _ _ view h, State.onSeq, State.st_onFace]

theorem State.face_walkTested (s : State) (f : Face) (status : EntryStatus) : (s.walkTested f status).face f =
    if status.advances then (if status = .failed then (s.face f).failPaused else s.face f).tested.looked
    else (if status = .failed then (s.face f).failPaused else s.face f).tested := by
  have hfail : (if status = .failed then s.failPause f else s).face f =
      if status = .failed then (s.face f).failPaused else s.face f := by
    split
    · exact s.face_failPause f
    · rfl
  unfold State.walkTested
  dsimp only
  split
  · rw [State.face_lookOn, State.face_testComplete, hfail]
  · rw [State.face_testComplete, hfail]

theorem State.onlyPlan_walkTested (s : State) (f : Face) (status : EntryStatus) :
    s.OnlyPlan (s.walkTested f status) f := by
  have hfail : s.OnlyPlan (if status = .failed then s.failPause f else s) f := by
    split
    · exact s.onlyPlan_failPause f
    · exact .refl s f
  have htest := hfail.trans (State.onlyPlan_testComplete _ f)
  unfold State.walkTested
  dsimp only
  split
  · exact htest.trans (State.onlyPlan_lookOn _ f)
  · exact htest

theorem State.face_lookAt (s : State) (f : Face) (i : StationId) :
    (s.lookAt f i).face f = (s.face f).afterLook i (walkStatus (s.st i)) := by
  rw [State.lookAt_eq, State.face_walkTested, State.face_walkClaimed_same]
  rfl

/-! ### The records outside the face's window -/

theorem State.st_failPause (s : State) (f : Face) (i : StationId) : (s.failPause f).st i = s.st i := by
  unfold State.failPause
  split <;> simp only [State.latchFace_eq, State.onSeq, State.st_onFace]

theorem FaceState.window_failPaused (x : FaceState) : x.failPaused.window = x.window := by
  unfold FaceState.failPaused
  split <;> rfl

theorem State.st_testComplete_outside (s : State) (f : Face) {i : StationId} (h : inWindow (s.face f).window i = false) :
    (s.testComplete f).st i = s.st i := by
  unfold State.testComplete
  dsimp only
  split
  · rw [State.dropReports, State.st_mapStations, if_neg]
    · simp only [State.latchFace_eq, State.st_onFace]
    · simp only [State.latchFace_eq, State.face_onFace_same, h, Bool.false_eq_true, not_false_iff]
  · rfl

/-- The tests leave the records outside the window. -/
theorem State.st_walkTested_outside (s : State) (f : Face) (status : EntryStatus) {i : StationId}
    (h : inWindow (s.face f).window i = false) : (s.walkTested f status).st i = s.st i := by
  have htest : ((if status = .failed then s.failPause f else s).testComplete f).st i = s.st i := by
    split
    · rw [State.st_testComplete_outside, State.st_failPause]
      rw [State.face_failPause, FaceState.window_failPaused, h]
    · exact s.st_testComplete_outside f h
  unfold State.walkTested
  dsimp only
  split
  · exact (State.st_onFace _ _ _ _).trans htest
  · exact htest

/-! ### A line out of the walk's reach -/

theorem Station.takeWalk_leaves {c : Station} (hs : c.startable = false) (hc : c.cancellable = false) :
    c.takeWalk = c := by
  rw [Station.takeWalk, if_neg (by simp [hs]), if_neg (by simp [hc])]

/-- A record that the claim leaves loses its reports alone. -/
theorem State.onlyPlan_walkClaimed {s : State} {f : Face} {i : StationId} (hs : (s.st i).startable = false)
    (hc : (s.st i).cancellable = false) : s.OnlyPlan (s.walkClaimed f i) f := by
  have hleaves : { s.st i with toSequencer := [] }.takeWalk = { s.st i with toSequencer := [] } :=
    Station.takeWalk_leaves hs hc
  refine ⟨⟨fun j => ?_, State.shore_onFace _ _ _, State.pending_onFace _ _ _, State.inReset_onFace _ _ _,
    State.urgentMasked_onFace _ _ _, State.routineMasked_onFace _ _ _⟩, fun g hg => s.face_walkClaimed_ne i hg⟩
  by_cases hj : j = i
  · subst hj
    rw [State.walkClaimed, State.st_onLine_same, State.onSeq, State.st_onFace, hleaves]
    split <;> rfl
  · rw [s.st_walkClaimed_ne f hj]

theorem State.onlyPlan_lookAt {s : State} {f : Face} {i : StationId} (hs : (s.st i).startable = false)
    (hc : (s.st i).cancellable = false) : s.OnlyPlan (s.lookAt f i) f :=
  (State.onlyPlan_walkClaimed hs hc).trans (State.onlyPlan_walkTested _ f _)

/-- The line is STOWED or REWIND. -/
def Station.AtEnd (c : Station) : Prop := c.state = .stowed ∨ c.state = .rewind

theorem Station.AtEnd.walkStatus {c : Station} (h : c.AtEnd) : walkStatus c = .skipped := by
  unfold Machine.walkStatus
  rcases h with h | h <;> rw [h]

theorem Station.AtEnd.startable {c : Station} (h : c.AtEnd) : c.startable = false := by
  rcases h with h | h <;> simp [Station.startable, h]

theorem Station.AtEnd.cancellable {c : Station} (h : c.AtEnd) : c.cancellable = false := by
  rcases h with h | h <;> simp [Station.cancellable, h]

/-! ### The walk over lines that are all STOWED or REWIND -/

/-- The plan of DEPART with the entries before `k` skipped. -/
def Sequencer.skippedTo (q : Sequencer) (k : Nat) : Sequencer :=
  { q with
    entries := q.entries.mapIdx fun j e => PlanEntry.mk e.station (if j < k then .skipped else .waiting) none false
    cursor := k
    state := .running
    walkOwed := decide (k < q.entries.length)
    startsOwed := []
    returnsOwed := [] }

section
variable (q : Sequencer)

theorem Sequencer.length_skippedTo (k : Nat) : (q.skippedTo k).entries.length = q.entries.length :=
  List.length_mapIdx

theorem Sequencer.stations_skippedTo (k : Nat) :
    (q.skippedTo k).entries.map PlanEntry.station = q.entries.map PlanEntry.station := by
  refine List.ext_getElem (by simp [Sequencer.skippedTo]) fun j _ _ => ?_
  simp [Sequencer.skippedTo]

theorem Sequencer.inProgress_skippedTo (k : Nat) : (q.skippedTo k).inProgress = 0 := by
  refine List.countP_eq_zero.mpr fun e he => ?_
  obtain ⟨j, hj, rfl⟩ := List.mem_mapIdx.mp he
  dsimp only
  split <;> decide

theorem Sequencer.canLook_skippedTo (hw : 1 ≤ q.width) (k : Nat) :
    (q.skippedTo k).canLook = decide (k < q.entries.length) := by
  rw [Bool.eq_iff_iff, Sequencer.canLook_iff, q.inProgress_skippedTo, q.length_skippedTo, decide_eq_true_iff]
  exact ⟨fun ⟨_, _, hlt⟩ => hlt, fun hlt => ⟨rfl, hw, hlt⟩⟩

theorem Sequencer.departed_eq (hw : 1 ≤ q.width) : q.departed = q.skippedTo 0 := by
  have hentries : (q.skippedTo 0).entries =
      q.entries.map fun e => { e with status := .waiting, timer := none, late := false } :=
    List.ext_getElem (by simp [Sequencer.skippedTo]) fun j _ _ => by simp [Sequencer.skippedTo]
  have hlook : (q.skippedTo 0).look = q.skippedTo 0 :=
    congrArg (fun b => { q.skippedTo 0 with walkOwed := b }) (q.canLook_skippedTo hw 0)
  rw [← hlook, Sequencer.departed, ← hentries]
  rfl

theorem Sequencer.getElem_skippedTo {k : Nat} (hk : k < q.entries.length) :
    (q.skippedTo k).entries[k]? = some (PlanEntry.mk q.entries[k].station .waiting none false) := by
  simp [Sequencer.skippedTo, hk]

theorem Sequencer.cursorStation_skippedTo {k : Nat} (hk : k < q.entries.length) :
    (q.skippedTo k).cursorStation = some q.entries[k].station :=
  congrArg (Option.map PlanEntry.station) (q.getElem_skippedTo hk)

/-- A look that skips the entry at the cursor. -/
theorem Sequencer.walked_skippedTo (hn : (q.entries.map PlanEntry.station).Nodup) {k : Nat} (hk : k < q.entries.length) :
    (q.skippedTo k).walked q.entries[k].station .skipped = { q.skippedTo (k + 1) with walkOwed := false } := by
  have hedit := Sequencer.edit_cursor (q.stations_skippedTo k ▸ hn) (q.getElem_skippedTo hk)
    fun e => { e with status := .skipped }
  have hset : (q.skippedTo k).entries.set k (PlanEntry.mk q.entries[k].station .skipped none false) =
      (q.skippedTo (k + 1)).entries := by
    refine List.ext_getElem (by simp [Sequencer.skippedTo]) fun j hj _ => ?_
    by_cases hjk : k = j
    · subst hjk
      simp [Sequencer.skippedTo]
    · have hlt : j < k + 1 ↔ j < k := by omega
      rw [List.getElem_set_ne hjk]
      simp only [Sequencer.skippedTo, List.getElem_mapIdx, hlt]
  have hentries := hedit.trans hset
  exact congrArg (fun es => { q.skippedTo (k + 1) with entries := es, walkOwed := false }) hentries

theorem Sequencer.complete_skippedTo : (q.skippedTo q.entries.length).complete = true := by
  refine (Sequencer.complete_iff _).mpr ⟨(q.length_skippedTo _).symm, fun e he => ?_⟩
  obtain ⟨j, hj, rfl⟩ := List.mem_mapIdx.mp he
  simp only [hj, if_true]
  rfl

theorem Sequencer.not_complete_skippedTo {k : Nat} (hk : k < q.entries.length) : (q.skippedTo k).complete = false := by
  rw [← Bool.not_eq_true, Sequencer.complete_iff, q.length_skippedTo]
  exact fun ⟨hcur, _⟩ => absurd hcur (Nat.ne_of_lt hk)

end

/-- The plan completed by DEPART's own walk. -/
def Sequencer.allSkipped (q : Sequencer) : Sequencer := { q.skippedTo q.entries.length with state := .done }

theorem Sequencer.walkOwed_allSkipped (q : Sequencer) : q.allSkipped.walkOwed = false :=
  decide_eq_false (Nat.lt_irrefl _)

/-- The face with its plan completed by DEPART's own walk. -/
def FaceState.completedBy (x : FaceState) (q : Sequencer) : FaceState :=
  { x with
    sequencer := q.allSkipped
    grant := if x.grant = .departing then .cleared else x.grant
    attn := x.attn.put .planDone true }

section
variable {q : Sequencer} (hw : 1 ≤ q.width) (hn : (q.entries.map PlanEntry.station).Nodup) (x : FaceState)
include hw hn

/-- A skipped entry before the last: the walk goes on. -/
theorem FaceState.afterLook_skippedTo {k : Nat} (hk : k + 1 < q.entries.length) :
    { x with sequencer := q.skippedTo k }.afterLook q.entries[k].station .skipped =
      { x with sequencer := q.skippedTo (k + 1) } := by
  have hwalked := q.walked_skippedTo hn (k := k) (by omega)
  have hopen : ¬((q.skippedTo k).walked q.entries[k].station .skipped).complete = true := by
    rw [hwalked, Bool.not_eq_true]
    exact q.not_complete_skippedTo hk
  have htest : { x with sequencer := (q.skippedTo k).walked q.entries[k].station .skipped }.tested =
      { x with sequencer := (q.skippedTo k).walked q.entries[k].station .skipped } :=
    FaceState.tested_of_not fun ⟨_, hc⟩ => hopen hc
  refine (congrArg FaceState.looked htest).trans ?_
  rw [FaceState.looked, hwalked]
  exact congrArg (fun b => { x with sequencer := { q.skippedTo (k + 1) with walkOwed := b } })
    (q.canLook_skippedTo hw (k + 1))

omit hw in
/-- The last entry skipped: the plan is complete. -/
theorem FaceState.afterLook_last {k : Nat} (hk : k + 1 = q.entries.length) :
    { x with sequencer := q.skippedTo k }.afterLook (q.entries[k]'(by omega)).station .skipped = x.completedBy q := by
  have hwalked := q.walked_skippedTo hn (k := k) (by omega)
  have htest := FaceState.tested_done (x := { x with sequencer := { q.skippedTo (k + 1) with walkOwed := false } }) rfl
    (by rw [hk]; exact q.complete_skippedTo)
  refine (congrArg (fun r => { x with sequencer := r }.tested.looked) hwalked).trans ((congrArg FaceState.looked htest).trans ?_)
  rw [FaceState.completedBy, Sequencer.allSkipped, ← hk]
  have hfalse : decide (k + 1 < q.entries.length) = false := decide_eq_false (by omega)
  simp [FaceState.looked, Sequencer.look, Sequencer.canLook, Sequencer.dropOwed, Sequencer.skippedTo, hfalse]

omit hn in
/-- One walk claim on a line STOWED or REWIND. -/
theorem State.walkOnce_atEnd {f : Face} {k : Nat} (hk : k < q.entries.length) {u : State}
    (hu : u.face f = { x with sequencer := q.skippedTo k }) (hend : ∀ e ∈ q.entries, (u.st e.station).AtEnd) :
    (u.seq f).walkOwed = true ∧ u.OnlyPlan (u.walkOnce f) f ∧
      (u.walkOnce f).face f = { x with sequencer := q.skippedTo k }.afterLook q.entries[k].station .skipped := by
  have hseq : u.seq f = q.skippedTo k := congrArg FaceState.sequencer hu
  have howed : (u.seq f).walkOwed = true := by
    rw [hseq]
    exact decide_eq_true hk
  have hline := hend _ (List.getElem_mem hk)
  have hlook : u.walkOnce f = u.lookAt f q.entries[k].station :=
    State.walkOnce_looks howed (by rw [hseq]; rfl) (by rw [hseq, q.canLook_skippedTo hw]; exact decide_eq_true hk)
      (by rw [hseq, q.cursorStation_skippedTo hk])
  rw [hlook, u.face_lookAt, hline.walkStatus, hu]
  exact ⟨howed, State.onlyPlan_lookAt hline.startable hline.cancellable, rfl⟩

omit hw hn in
theorem State.OnlyPlan.atEnd {s t : State} {f : Face} (h : s.OnlyPlan t f) {i : StationId} (hi : (s.st i).AtEnd) :
    (t.st i).AtEnd := by
  rw [h.1.1 i]
  exact hi

/-- The walk from entry `k` on, every line listed STOWED or REWIND: it skips them and completes the plan. -/
theorem State.walkMany_atEnd (f : Face) (n k : Nat) (u : State) (hlast : k + n + 1 = q.entries.length)
    (hu : u.face f = { x with sequencer := q.skippedTo k }) (hend : ∀ e ∈ q.entries, (u.st e.station).AtEnd) :
    u.OnlyPlan (u.walkMany (n + 2) f) f ∧ (u.walkMany (n + 2) f).face f = x.completedBy q := by
  have hk : k < q.entries.length := by omega
  obtain ⟨howed, honly, hface⟩ := State.walkOnce_atEnd hw x hk hu hend
  rw [State.walkMany, if_pos howed]
  induction n generalizing k u with
  | zero =>
    rw [FaceState.afterLook_last hn x (by omega)] at hface
    have hstop : ((u.walkOnce f).seq f).walkOwed = false := by
      rw [State.seq, hface]
      exact q.walkOwed_allSkipped
    rw [State.walkMany, if_neg (by simp [hstop])]
    exact ⟨honly, hface⟩
  | succ n ih =>
    rw [FaceState.afterLook_skippedTo hw hn x (by omega)] at hface
    have hend' : ∀ e ∈ q.entries, ((u.walkOnce f).st e.station).AtEnd := fun e he => honly.atEnd (hend e he)
    have hk' : k + 1 < q.entries.length := by omega
    obtain ⟨howed', honly', hface'⟩ := State.walkOnce_atEnd hw x hk' hface hend'
    obtain ⟨hrest, hdone⟩ := ih (k + 1) (u.walkOnce f) (by omega) hface hend' hk' howed' honly' hface'
    rw [State.walkMany, if_pos howed']
    exact ⟨honly.trans hrest, hdone⟩

end

/-! ### DEPART (R123) -/

/-- The part with the plan restarted and the face DEPARTING, before the walk. -/
def State.departing (s : State) (f : Face) : State :=
  (s.dropReports f).onFace f fun x => { x with grant := .departing, planReports := 0, sequencer := x.sequencer.departed }

/-- What DEPART comes to where no claim is owed. -/
def State.departTaken (s : State) (f : Face) : State × Answer :=
  if (s.face f).grant ≠ .moored then (s, refusal .wrongState)
  else if (s.seq f).entries = [] then (s, refusal .wrongState)
  else
    (if ((s.settleSeq f).departing f).planAtEnd f then
        ((s.settleSeq f).departing f).walkMany ((((s.settleSeq f).departing f).seq f).entries.length + 1) f
      else (s.settleSeq f).departing f, ⟨.accepted, []⟩)

theorem hostComes_depart {s : State} (h : s.HostReady) (f : Face) : HostComes (.depart f) s 0 (s.departTaken f) := by
  dsimp only [HostComes, exec, execDepart]
  exact hostRequest_ready h (i := .depart f) rfl _

theorem State.onlyPlan_departing (s : State) (f : Face) : s.OnlyPlan (s.departing f) f :=
  (s.onlyPlan_dropReports f).trans (State.onlyPlan_onFace _ f _)

theorem State.face_departing {s : State} {f : Face} (hw : 1 ≤ (s.seq f).width) : (s.departing f).face f =
    { s.face f with grant := .departing, planReports := 0, sequencer := (s.seq f).skippedTo 0 } := by
  rw [State.departing, State.face_onFace_same, State.face_dropReports, ← Sequencer.departed_eq _ hw]
  rfl

theorem State.planAtEnd_iff (s : State) (f : Face) :
    s.planAtEnd f = true ↔ ∀ e ∈ (s.seq f).entries, (s.st e.station).AtEnd := by
  simp [State.planAtEnd, Station.AtEnd]

/-- The lines a DEPART tests are those of the plan it restarts. -/
theorem State.planAtEnd_departing {s : State} {f : Face} (hw : 1 ≤ (s.seq f).width) :
    (s.departing f).planAtEnd f = true ↔ ∀ e ∈ (s.seq f).entries, (s.st e.station).AtEnd := by
  have hstations : ((s.departing f).seq f).entries.map PlanEntry.station = (s.seq f).entries.map PlanEntry.station := by
    rw [State.seq, State.face_departing hw]
    exact Sequencer.stations_skippedTo _ 0
  have hstate : ∀ i, ((s.departing f).st i).AtEnd ↔ (s.st i).AtEnd := fun i => by
    rw [(s.onlyPlan_departing f).1.1 i]
    rfl
  rw [State.planAtEnd_iff, ← List.forall_mem_map (P := fun i => ((s.departing f).st i).AtEnd), hstations,
    List.forall_mem_map]
  simp only [hstate]

/-- Settles O32: the restarted plan, and DEPART's own walk over lines that are all STOWED or REWIND. -/
theorem departStartsThePlan : Obligations.DepartStartsThePlan := by
  intro f s h
  refine ⟨fun hgrant hne hact hr hs howed hw => ?_, fun hno => ?_⟩
  · have htaken : s.departTaken f =
        (if (s.departing f).planAtEnd f then (s.departing f).walkMany (((s.departing f).seq f).entries.length + 1) f
          else s.departing f, ⟨.accepted, []⟩) := by
      rw [State.departTaken, if_neg (not_not_intro hgrant), if_neg hne, State.settleSeq_nothing hr hs howed]
    have hentries : ((s.seq f).skippedTo 0).entries =
        (s.seq f).entries.map fun e => PlanEntry.mk e.station .waiting none false := by
      rw [← Sequencer.departed_eq _ hw]
      rfl
    refine ⟨fun ⟨e, he, hstowed, hrewind⟩ => ?_, fun hall hn => ?_⟩
    · rw [if_neg fun hend => ((State.planAtEnd_departing hw).mp hend e he).elim hstowed hrewind] at htaken
      refine ((hostComes_depart h f).onlyPlan htaken (s.onlyPlan_departing f) rfl).mono
        fun t ⟨hans, hfaces, hdevice, hst, hface⟩ => ?_
      rw [State.face_departing hw] at hface
      rw [State.seq, hface]
      exact ⟨hans, hfaces, hdevice, hst, rfl, hentries, rfl, rfl, decide_eq_true (List.length_pos_iff.mpr hne), rfl, rfl⟩
    · have hlength : ((s.departing f).seq f).entries.length = (s.seq f).entries.length := by
        rw [State.seq, State.face_departing hw]
        exact Sequencer.length_skippedTo _ 0
      obtain ⟨n, hn1⟩ : ∃ n, (s.seq f).entries.length = n + 1 :=
        Nat.exists_eq_add_one.mpr (List.length_pos_iff.mpr hne)
      obtain ⟨hwalk, hdone⟩ := State.walkMany_atEnd hw hn
        { s.face f with grant := .departing, planReports := 0 } f n 0 (s.departing f) (by omega)
        (State.face_departing hw) fun e he => (s.onlyPlan_departing f).atEnd (hall e he)
      rw [if_pos ((State.planAtEnd_departing hw).mpr hall), hlength, hn1] at htaken
      refine ((hostComes_depart h f).onlyPlan htaken ((s.onlyPlan_departing f).trans hwalk) rfl).mono
        fun t ⟨hans, hfaces, hdevice, hst, hface⟩ => ?_
      rw [hdone] at hface
      rw [State.seq, hface]
      refine ⟨hans, hfaces, hdevice, hst, rfl, ?_, rfl, rfl, Sequencer.walkOwed_allSkipped _, rfl, rfl⟩
      refine List.ext_getElem (by simp [FaceState.completedBy, Sequencer.allSkipped, Sequencer.skippedTo])
        fun j hj hj' => ?_
      have hlt : j < (s.seq f).entries.length := by simpa using hj'
      simp [FaceState.completedBy, Sequencer.allSkipped, Sequencer.skippedTo, hlt]
  · refine (hostComes_depart h f).refusing ?_ rfl
    rw [State.departTaken]
    by_cases hgrant : (s.face f).grant = .moored
    · rw [if_neg (not_not_intro hgrant), if_pos (hno.resolve_left (not_not_intro hgrant))]
    · rw [if_pos hgrant]

end Sys2Proof.Machine
end

section
/-! PROOF. The walk claim (Table 6-4, R124, R125, R130, R131, R133, R134). -/

namespace Sys2Proof.Machine

/-! ### The entry of the claim -/

theorem Sequencer.find_edit (q : Sequencer) (i j : StationId) {g : PlanEntry → PlanEntry}
    (h : ∀ e, (g e).station = e.station) :
    (q.edit i g).find j = (q.find j).map fun e => if e.station = i then g e else e := by
  have hsame : ((fun e : PlanEntry => decide (e.station = j)) ∘ fun e => if e.station = i then g e else e) =
      fun e => decide (e.station = j) := by
    funext e
    simp only [Function.comp]
    split
    · rw [h]
    · rfl
  rw [Sequencer.find, Sequencer.edit, List.find?_map, hsame]
  rfl

theorem Sequencer.find_edit_same (q : Sequencer) (i : StationId) {g : PlanEntry → PlanEntry}
    (h : ∀ e, (g e).station = e.station) : (q.edit i g).find i = (q.find i).map g := by
  rw [q.find_edit i i h]
  refine Option.map_congr fun e he => if_pos ?_
  simpa using List.find?_some he

theorem Sequencer.find_walked (q : Sequencer) (i : StationId) (status : EntryStatus) :
    (q.walked i status).find i = (q.find i).map (q.walkedEntry status) :=
  q.find_edit_same i fun _ => rfl

theorem Sequencer.cursor_walked (q : Sequencer) (i : StationId) (status : EntryStatus) :
    (q.walked i status).cursor = if status.advances then q.cursor + 1 else q.cursor := rfl

theorem Sequencer.mem_of_cursorStation {q : Sequencer} {i : StationId} (h : q.cursorStation = some i) :
    ∃ e ∈ q.entries, e.station = i := by
  obtain ⟨e, he, hi⟩ := Option.map_eq_some_iff.mp h
  exact ⟨e, List.mem_of_getElem? he, hi⟩

/-- Complete after an edit: the entry edited is finished, and so is every other. -/
theorem Sequencer.complete_edit_iff {q : Sequencer} {i : StationId} {g : PlanEntry → PlanEntry} {status : EntryStatus}
    (hstatus : ∀ e, (g e).status = status) (hi : ∃ e ∈ q.entries, e.station = i) :
    (∀ e ∈ (q.edit i g).entries, e.status.finished = true) ↔
      status.finished = true ∧ ∀ e ∈ q.entries, e.station ≠ i → e.status.finished = true := by
  simp only [Sequencer.edit, List.forall_mem_map]
  refine ⟨fun hall => ⟨?_, fun e he hne => ?_⟩, fun ⟨hdone, hothers⟩ e he => ?_⟩
  · obtain ⟨e, he, hs⟩ := hi
    have := hall e he
    rwa [if_pos hs, hstatus] at this
  · have := hall e he
    rwa [if_neg hne] at this
  · split
    · rw [hstatus]
      exact hdone
    · next hne => exact hothers e he hne

theorem Sequencer.complete_walked_iff {q : Sequencer} {i : StationId} (status : EntryStatus)
    (hi : ∃ e ∈ q.entries, e.station = i) :
    (q.walked i status).complete = true ↔
      (if status.advances then q.cursor + 1 else q.cursor) = q.entries.length ∧ status.finished = true ∧
        ∀ e ∈ q.entries, e.station ≠ i → e.status.finished = true := by
  rw [Sequencer.complete_iff, q.cursor_walked]
  exact and_congr (by rw [Sequencer.walked]; simp) (Sequencer.complete_edit_iff (fun _ => rfl) hi)

/-! ### The face, by the status the claim gives -/

theorem FaceState.entries_failPaused (x : FaceState) : x.failPaused.sequencer.entries = x.sequencer.entries := by
  unfold FaceState.failPaused
  split <;> rfl

theorem FaceState.entries_tested (x : FaceState) : x.tested.sequencer.entries = x.sequencer.entries := by
  unfold FaceState.tested
  split <;> rfl

theorem FaceState.cursor_failPaused (x : FaceState) : x.failPaused.sequencer.cursor = x.sequencer.cursor := by
  unfold FaceState.failPaused
  split <;> rfl

theorem FaceState.cursor_tested (x : FaceState) : x.tested.sequencer.cursor = x.sequencer.cursor := by
  unfold FaceState.tested
  split <;> rfl

section
variable (x : FaceState) (i : StationId) (status : EntryStatus)

theorem FaceState.entries_afterLook :
    (x.afterLook i status).sequencer.entries = (x.sequencer.walked i status).entries := by
  have htested : ((if status = EntryStatus.failed then
      { x with sequencer := x.sequencer.walked i status }.failPaused
      else { x with sequencer := x.sequencer.walked i status }).tested).sequencer.entries =
      (x.sequencer.walked i status).entries := by
    rw [FaceState.entries_tested]
    split
    · exact FaceState.entries_failPaused _
    · rfl
  unfold FaceState.afterLook
  dsimp only
  split <;> exact htested

theorem FaceState.cursor_afterLook : (x.afterLook i status).sequencer.cursor =
    if status.advances then x.sequencer.cursor + 1 else x.sequencer.cursor := by
  have htested : ((if status = EntryStatus.failed then
      { x with sequencer := x.sequencer.walked i status }.failPaused
      else { x with sequencer := x.sequencer.walked i status }).tested).sequencer.cursor =
      (x.sequencer.walked i status).cursor := by
    rw [FaceState.cursor_tested]
    split
    · exact FaceState.cursor_failPaused _
    · rfl
  rw [← Sequencer.cursor_walked x.sequencer i status]
  unfold FaceState.afterLook
  dsimp only
  split <;> exact htested

theorem FaceState.find_afterLook :
    (x.afterLook i status).sequencer.find i = (x.sequencer.find i).map (x.sequencer.walkedEntry status) := by
  rw [Sequencer.find, FaceState.entries_afterLook]
  exact x.sequencer.find_walked i status

variable {x i status} (hrun : x.sequencer.state = .running)
include hrun

/-- A FAILED entry pauses the walk. -/
theorem FaceState.afterLook_failed : x.afterLook i .failed = { x with
    sequencer := { x.sequencer.walked i .failed with state := .paused .failed, walkOwed := false }
    attn := x.attn.put .planPaused true } := by
  have hstate : (x.sequencer.walked i .failed).state = .running := hrun
  have hpause : { x with sequencer := x.sequencer.walked i .failed }.failPaused = { x with
      sequencer := { x.sequencer.walked i .failed with state := .paused .failed, walkOwed := false }
      attn := x.attn.put .planPaused true } := by
    unfold FaceState.failPaused
    simp only [hstate]
  refine (congrArg (fun y : FaceState => y.tested.looked) hpause).trans ?_
  rw [FaceState.tested_of_not (fun h => by cases h.1)]
  rfl

omit hrun in
/-- Where the plan does not end, the walk goes on past an entry it leaves behind. -/
theorem FaceState.afterLook_open (hf : status ≠ .failed) (ha : status.advances = true)
    (hc : ¬(x.sequencer.walked i status).complete = true) :
    x.afterLook i status = { x with sequencer := (x.sequencer.walked i status).look } := by
  unfold FaceState.afterLook
  dsimp only
  rw [if_neg hf, if_pos ha, FaceState.tested_of_not fun h => hc h.2]
  rfl

omit hrun in
/-- An entry that keeps the cursor stops the walk. -/
theorem FaceState.afterLook_stays (ha : status.advances = false)
    (hc : ¬(x.sequencer.walked i status).complete = true) :
    x.afterLook i status = { x with sequencer := x.sequencer.walked i status } := by
  have hf : status ≠ .failed := by
    rintro rfl
    cases ha
  unfold FaceState.afterLook
  dsimp only
  rw [if_neg hf, if_neg (by simp [ha]), FaceState.tested_of_not fun h => hc h.2]

/-- The last entry skipped completes the plan. -/
theorem FaceState.afterLook_complete (hc : (x.sequencer.walked i .skipped).complete = true) :
    x.afterLook i .skipped = { x with
      sequencer := { { x.sequencer.walked i .skipped with state := .done }.dropOwed with walkOwed := false }
      grant := if x.grant = .departing then .cleared else x.grant
      attn := x.attn.put .planDone true } :=
  congrArg FaceState.looked (FaceState.tested_done (x := { x with sequencer := x.sequencer.walked i .skipped }) hrun hc)

end

/-! ### The status, and what the claim makes of the record -/

section
variable {c : Station}

theorem walkStatus_failed (h : c.state = .fault ∨ c.state = .halted) : walkStatus c = .failed := by
  unfold walkStatus
  rcases h with h | h <;> rw [h]

theorem walkStatus_slack (h : c.state = .slack) : walkStatus c = .slack := by
  unfold walkStatus
  rw [h]

/-- A line at work is decided by its claim, its holds and its state. -/
theorem walkStatus_atWork (h : c.state.barredWhileVacant = true) : walkStatus c =
    if c.cancellable then .skipped else if c.holds ≠ [] then .blocked else if c.startable then .easing else .waiting := by
  unfold walkStatus
  cases hs : c.state with
  | payout | heave | tended | locking | locked | easing => rfl
  | stowed | slack | rewind | fault | halted => simp [hs, LineState.barredWhileVacant] at h

theorem walkStatus_cancelled (h : c.cancellable = true) : walkStatus c = .skipped := by
  have hpayout := (Station.cancellable_iff.mp h).1
  rw [walkStatus_atWork (by rw [hpayout]; rfl), if_pos h]

theorem walkStatus_blocked (h : c.state.barredWhileVacant = true) (hh : c.holds ≠ []) : walkStatus c = .blocked := by
  have hc : ¬c.cancellable = true := fun hc => hh (Station.cancellable_iff.mp hc).2.2
  rw [walkStatus_atWork h, if_neg hc, if_pos hh]

theorem walkStatus_easing (h : c.startable = true) : walkStatus c = .easing := by
  obtain ⟨hs, hh⟩ := Station.startable_iff.mp h
  have hwork : c.state.barredWhileVacant = true := by rcases hs with hs | hs <;> rw [hs] <;> rfl
  have hc : ¬c.cancellable = true := fun hc => by
    have := (Station.cancellable_iff.mp hc).1
    rcases hs with hs | hs <;> rw [hs] at this <;> cases this
  rw [walkStatus_atWork hwork, if_neg hc, if_neg (not_not_intro hh), if_pos h]

theorem walkStatus_waiting (h : c.state.barredWhileVacant = true) (hc : c.cancellable = false)
    (hs : c.startable = false) (hh : c.holds = []) : walkStatus c = .waiting := by
  rw [walkStatus_atWork h, if_neg (by simp [hc]), if_neg (not_not_intro hh), if_neg (by simp [hs])]

/-- A released line is EASING, or SLACK where its release has ended at once. -/
theorem Station.state_enterEasing (c : Station) : c.enterEasing.state = .easing ∨ c.enterEasing.state = .slack := by
  have hwrite (hf : (c.easedSent .rendering).drive.field = .opened)
      (he : c.enterEasing = (c.easedSent .rendering).write c.easeSegment) :
      c.enterEasing.state = .easing ∨ c.enterEasing.state = .slack := by
    rw [he]
    cases ha : c.average.any (fun a => decide (a ≤ c.settings.releaseThreshold - 1)) with
    | true => exact .inr (by rw [Station.easing_ends hf ha]; rfl)
    | false => exact .inl (by rw [Station.easing_runs hf ha]; rfl)
  by_cases hf : c.drive.field = .opened
  · exact hwrite (Station.field_movedSent_of_field (p := .opened) .easing hf) (Station.enterEasing_opened hf)
  by_cases hf' : c.drive.field = .opening
  · exact .inl (by rw [Station.enterEasing_opening hf']; rfl)
  by_cases hr : c.drive.reading = .openOnly
  · exact hwrite (Station.field_movedSent_of_reading (p := .opened) .easing hr) (Station.enterEasing_confirms hf hf' hr)
  · exact .inl (by rw [Station.enterEasing_travels hf hf' hr]; rfl)

theorem Station.takeWalk_starts (h : c.startable = true) : c.takeWalk = c.enterEasing := if_pos h

theorem Station.takeWalk_cancels (h : c.cancellable = true) : c.takeWalk = c.enterRewind := by
  have hs : ¬c.startable = true := fun hs => by
    have hp := (Station.cancellable_iff.mp h).1
    rcases (Station.startable_iff.mp hs).1 with ht | ht <;> rw [hp] at ht <;> cases ht
  exact (if_neg hs).trans (if_pos h)

end

/-! ### The part after the look -/

section
variable {s : State} {f : Face} {i : StationId}

theorem State.state_lookAt (s : State) (f : Face) (i : StationId) :
    ((s.lookAt f i).st i).state = { s.st i with toSequencer := [] }.takeWalk.state := by
  rw [State.lookAt_eq, (State.onlyPlan_walkTested _ f _).1.1 i]
  exact s.st_walkClaimed_field f i Station.state fun _ _ => rfl

theorem State.state_lookAt_leaves (hs : (s.st i).startable = false) (hc : (s.st i).cancellable = false) :
    ((s.lookAt f i).st i).state = (s.st i).state := by
  rw [State.state_lookAt, Station.takeWalk_leaves (c := { s.st i with toSequencer := [] }) hs hc]

theorem State.state_lookAt_starts (h : (s.st i).startable = true) :
    ((s.lookAt f i).st i).state = .easing ∨ ((s.lookAt f i).st i).state = .slack := by
  rw [State.state_lookAt, Station.takeWalk_starts (c := { s.st i with toSequencer := [] }) h]
  exact Station.state_enterEasing _

theorem State.state_lookAt_cancels (h : (s.st i).cancellable = true) : ((s.lookAt f i).st i).state ≠ .payout := by
  rw [State.state_lookAt, Station.takeWalk_cancels (c := { s.st i with toSequencer := [] }) h]
  exact (Station.outOfWork_enterRewind _).ne rfl

theorem State.keepsStations_lookAt (s : State) (f : Face) (i : StationId) :
    s.KeepsStations (s.lookAt f i) fun j => decide (j = i) || inWindow (s.face f).window j := by
  intro j hj
  obtain ⟨hji, hjw⟩ := Bool.or_eq_false_iff.mp hj
  have hout : inWindow ((s.walkClaimed f i).face f).window j = false := by
    rw [State.face_walkClaimed_same]
    exact hjw
  rw [State.lookAt_eq, State.st_walkTested_outside _ f _ hout, s.st_walkClaimed_ne f (by simpa using hji)]

theorem State.keepsFaces_lookAt (s : State) (f : Face) (i : StationId) :
    s.KeepsFaces (s.lookAt f i) fun g => decide (g = f) := by
  intro g hg
  have hne : g ≠ f := by simpa using hg
  exact ((State.onlyPlan_walkTested _ f _).2 g hne).trans (s.face_walkClaimed_ne i hne)

theorem State.keepsDevice_lookAt (s : State) (f : Face) (i : StationId) :
    s.KeepsDevice (s.lookAt f i) ∧ (s.lookAt f i).shore = s.shore := by
  obtain ⟨-, hshore, hdevice⟩ := (State.onlyPlan_walkTested (s.walkClaimed f i) f (walkStatus (s.st i))).1
  have hclaimed : s.KeepsDevice (s.walkClaimed f i) := by simp [State.KeepsDevice, State.walkClaimed, State.onSeq]
  exact ⟨hclaimed.trans hdevice, hshore.trans (State.shore_onFace _ _ _)⟩

end

/-! ### The walk claim -/

theorem completes_walkClaim {s : State} (h : s.inReset = false) {f : Face} {P : State → Prop} (hP : P (s.walkOnce f)) :
    Completes (.walkClaim f) s P :=
  ⟨_, live_running h (State.walkOnce · f), hP⟩

/-- A claim that finds nothing to look at is spent. -/
theorem State.walkOnce_spent {s : State} {f : Face} (ho : (s.seq f).walkOwed = true) (hs : (s.seq f).startsOwed = [])
    (h : (s.seq f).canLook = false ∨ (s.seq f).cursorStation = none) :
    s.walkOnce f = s.onFace f fun x => { x with sequencer := { x.sequencer with walkOwed := false } } := by
  have hturn : ((s.seq f).walkOwed && (s.seq f).startsOwed.isEmpty) = true := by simp [ho, hs]
  unfold State.walkOnce
  dsimp only
  rw [if_pos hturn]
  cases hc : (s.seq f).cursorStation with
  | none => rfl
  | some i => exact if_neg (by simpa [hc] using h)

/-- Settles O34: the status by the record found, and the face and the record by the status. -/
theorem theWalkClaimFollowsTheRecordItFinds : Obligations.TheWalkClaimFollowsTheRecordItFinds := by
  intro f i s h
  refine ⟨fun hno => completes_walkClaim h (State.walkOnce_waits hno), fun ho hs hno => completes_walkClaim h ?_,
    fun ho hs hl hlaw hcur => completes_walkClaim h ?_⟩
  · rw [State.walkOnce_spent ho hs hno]
    exact ⟨s.onlyFace_onFace f _, State.face_onFace_same _ _ _⟩
  rw [State.walkOnce_looks ho hs hl hcur]
  obtain ⟨hrun, -, -⟩ := Sequencer.canLook_iff.mp hl
  have hmem := Sequencer.mem_of_cursorStation hcur
  have hface := s.face_lookAt f i
  have hfind : ((s.lookAt f i).seq f).find i = ((s.seq f).find i).map ((s.seq f).walkedEntry (walkStatus (s.st i))) := by
    rw [State.seq, hface]
    exact FaceState.find_afterLook _ _ _
  have hcursor : ((s.lookAt f i).seq f).cursor =
      if (walkStatus (s.st i)).advances then (s.seq f).cursor + 1 else (s.seq f).cursor := by
    rw [State.seq, hface]
    exact FaceState.cursor_afterLook _ _ _
  have hcomplete := Sequencer.complete_walked_iff (walkStatus (s.st i)) hmem
  obtain ⟨hdevice, hshore⟩ := s.keepsDevice_lookAt f i
  refine ⟨s.keepsStations_lookAt f i, s.keepsFaces_lookAt f i, hdevice, hshore, fun e he hne => ?_, fun hst => ?_,
    fun hst => ?_, fun hst => ?_, fun hst => ?_, fun hst htag hh => ?_, fun hst hh => ?_, fun hst hh => ?_,
    fun hst hh => ?_⟩
  · rw [State.seq, hface, FaceState.entries_afterLook]
    exact Sequencer.mem_edit_of_ne he hne
  · have hleft : (s.st i).startable = false ∧ (s.st i).cancellable = false := by
      rcases hst with hst | hst <;> simp [Station.startable, Station.cancellable, hst]
    rw [walkStatus_failed hst] at hfind hcursor hface
    rw [FaceState.afterLook_failed hrun] at hface
    have hseq : (s.lookAt f i).seq f = _ := congrArg FaceState.sequencer hface
    rw [hfind, hcursor, State.state_lookAt_leaves hleft.1 hleft.2, hseq, hface]
    exact ⟨rfl, rfl, rfl, rfl, rfl, rfl⟩
  · have hend : (s.st i).AtEnd := hst
    rw [hend.walkStatus] at hfind hcursor
    exact ⟨hfind, hcursor, State.state_lookAt_leaves hend.startable hend.cancellable⟩
  · have hskip : walkStatus (s.st i) = .skipped := by
      rcases hst with hst | hst | ⟨hst, htag, hh⟩
      · exact Station.AtEnd.walkStatus (.inl hst)
      · exact Station.AtEnd.walkStatus (.inr hst)
      · exact walkStatus_cancelled (Station.cancellable_iff.mpr ⟨hst, htag, hh⟩)
    rw [hskip] at hface hcomplete
    refine ⟨fun hlast hothers => ?_, fun hopen => ?_⟩
    · rw [FaceState.afterLook_complete hrun (hcomplete.mpr ⟨hlast, rfl, hothers⟩)] at hface
      rw [State.seq, hface]
      exact ⟨rfl, rfl, rfl, rfl⟩
    · have hc : ¬((s.seq f).walked i .skipped).complete = true := fun hc => by
        obtain ⟨hlast, -, hothers⟩ := hcomplete.mp hc
        rcases hopen with hopen | ⟨e, he, hne, hunfinished⟩
        · exact hopen hlast
        · simp [hothers e he hne] at hunfinished
      rw [FaceState.afterLook_open (by decide) rfl hc] at hface
      rw [State.seq, hface]
      exact ⟨hrun, rfl, rfl, rfl⟩
  · have hleft : (s.st i).startable = false ∧ (s.st i).cancellable = false := by
      simp [Station.startable, Station.cancellable, hst]
    rw [walkStatus_slack hst] at hfind hcursor hface hcomplete
    rw [FaceState.afterLook_open (by decide) rfl fun hc => by cases (hcomplete.mp hc).2.1] at hface
    have hseq : (s.lookAt f i).seq f = _ := congrArg FaceState.sequencer hface
    rw [hfind, hcursor, State.state_lookAt_leaves hleft.1 hleft.2, hseq]
    exact ⟨rfl, rfl, hrun, hst⟩
  · have hcancel := Station.cancellable_iff.mpr ⟨hst, htag, hh⟩
    rw [walkStatus_cancelled hcancel] at hfind hcursor
    exact ⟨hfind, hcursor, State.state_lookAt_cancels hcancel⟩
  · have hleft : (s.st i).startable = false ∧ (s.st i).cancellable = false := by
      simp [Station.startable, Station.cancellable, hh]
    rw [walkStatus_blocked hst hh] at hfind hcursor hface hcomplete
    rw [FaceState.afterLook_stays rfl fun hc => by cases (hcomplete.mp hc).2.1] at hface
    have hseq : (s.lookAt f i).seq f = _ := congrArg FaceState.sequencer hface
    rw [hfind, hcursor, State.state_lookAt_leaves hleft.1 hleft.2, hseq]
    exact ⟨rfl, rfl, rfl, rfl⟩
  · have hstart := Station.startable_iff.mpr ⟨hst, hh⟩
    rw [walkStatus_easing hstart] at hfind hcursor hface hcomplete
    rw [FaceState.afterLook_open (by decide) rfl fun hc => by cases (hcomplete.mp hc).2.1] at hface
    refine ⟨hfind, hcursor, ?_, State.state_lookAt_starts hstart⟩
    rw [State.seq, hface]
    exact hrun
  · have hwork : (s.st i).state.barredWhileVacant = true := by
      rcases hst with ⟨hst, _⟩ | hst | hst | hst <;> rw [hst] <;> rfl
    have hns : (s.st i).startable = false := by
      rw [← Bool.not_eq_true, Station.startable_iff]
      rintro ⟨ht | ht, _⟩ <;> simp [ht] at hst
    have hnc : (s.st i).cancellable = false := by
      rw [← Bool.not_eq_true, Station.cancellable_iff]
      rintro ⟨hp, ht, _⟩
      simp [hp, ht] at hst
    rw [walkStatus_waiting hwork hnc hns hh] at hfind hcursor hface hcomplete
    rw [FaceState.afterLook_stays rfl fun hc => by cases (hcomplete.mp hc).2.1] at hface
    have hseq : (s.lookAt f i).seq f = _ := congrArg FaceState.sequencer hface
    rw [hfind, hcursor, State.state_lookAt_leaves hns hnc, hseq]
    exact ⟨rfl, rfl, rfl, rfl⟩

end Sys2Proof.Machine
end

section
/-! PROOF. Start claims, return claims and step timers (R45, R49, R129, R130, R134, R136). -/

namespace Sys2Proof.Machine

/-! ### A claim on one record and its entry -/

/-- The record after a claim is what the claim makes it, but for its reports. -/
theorem State.st_onLine_eq (s : State) (i : StationId) (g : Station → Station) :
    ∃ reports, (s.onLine i g).st i = { g (s.st i) with toSequencer := reports } := by
  rw [State.st_onLine_same]
  split
  · exact ⟨_, rfl⟩
  · exact ⟨_, rfl⟩

theorem State.onlyStationAndFace_onFace {s t : State} {i : StationId} {f : Face} (h : s.OnlyStationAndFace t i f)
    (g : FaceState → FaceState) : s.OnlyStationAndFace (t.onFace f g) i f := by
  obtain ⟨hst, hface, hdevice, hshore⟩ := h
  obtain ⟨⟨kst, kface, kdevice⟩, kshore⟩ := t.onlyFace_onFace f g
  exact ⟨fun j hj => (kst j rfl).trans (hst j hj), fun k hk => (kface k hk).trans (hface k hk), hdevice.trans kdevice,
    kshore.trans hshore⟩

theorem State.onlyStationAndFace_onSeq {s t : State} {i : StationId} {f : Face} (h : s.OnlyStationAndFace t i f)
    (g : Sequencer → Sequencer) : s.OnlyStationAndFace (t.onSeq f g) i f := State.onlyStationAndFace_onFace h _

theorem State.onlyStationAndFace_onLine {s t : State} {i : StationId} {f : Face} (h : s.OnlyStationAndFace t i f)
    (g : Station → Station) : s.OnlyStationAndFace (t.onLine i g) i f := by
  obtain ⟨hst, hface, hdevice, hshore⟩ := h
  obtain ⟨⟨kst, kface, kdevice⟩, kshore⟩ := t.onlyStation_onLine i g
  exact ⟨fun j hj => (kst j hj).trans (hst j hj), fun k hk => (kface k rfl).trans (hface k hk), hdevice.trans kdevice,
    kshore.trans hshore⟩

theorem State.onlyStationAndFace_setSt {s t : State} {i : StationId} {f : Face} (h : s.OnlyStationAndFace t i f)
    (c : Station) : s.OnlyStationAndFace (t.setSt i c) i f := by
  obtain ⟨hst, hface, hdevice, hshore⟩ := h
  refine ⟨fun j hj => ?_, fun k hk => (State.face_setSt _ _ _ k).trans (hface k hk), hdevice.trans ?_,
    (State.shore_setSt _ _ _).trans hshore⟩
  · exact (State.st_setSt_ne _ _ (by simpa using hj)).trans (hst j hj)
  · simp [State.KeepsDevice]

theorem State.OnlyStationAndFace.refl (s : State) (i : StationId) (f : Face) : s.OnlyStationAndFace s i f :=
  ⟨fun _ _ => rfl, fun _ _ => rfl, ⟨rfl, rfl, rfl, rfl⟩, rfl⟩

/-! ### What each step does to the part -/

section
variable {s : State} (h : s.inReset = false) {i : StationId} {f : Face} (hf : s.faceOf i = some f) {P : State → Prop}
include h hf

theorem completes_startClaim (hP : P (s.startOnce f i)) : Completes (.startClaim i) s P := by
  refine ⟨s.startOnce f i, ?_, hP⟩
  dsimp only [exec, execStartClaim]
  rw [live_running h]
  simp only [hf]

theorem completes_returnClaim (hP : P (s.returnOnce f i)) : Completes (.returnClaim i) s P := by
  refine ⟨s.returnOnce f i, ?_, hP⟩
  dsimp only [exec, execReturnClaim]
  rw [live_running h]
  simp only [hf]

theorem completes_stepTimerExpiry (hP : P (s.expireStep f i)) : Completes (.stepTimerExpiry i) s P := by
  refine ⟨s.expireStep f i, ?_, hP⟩
  dsimp only [exec, execStepTimerExpiry]
  rw [live_running h]
  simp only [hf]

end

/-- The first start claim owed, taken off. -/
def State.startTaken (s : State) (f : Face) : State := s.onSeq f fun q => { q with startsOwed := q.startsOwed.tail }

section
variable {s : State} {f : Face} {i : StationId} {e : PlanEntry}

theorem State.face_startTaken (s : State) (f : Face) : (s.startTaken f).face f =
    { s.face f with sequencer := { s.seq f with startsOwed := (s.seq f).startsOwed.tail } } := s.face_onSeq_same f _

theorem State.st_startTaken (s : State) (f : Face) (j : StationId) : (s.startTaken f).st j = s.st j := s.st_onFace f _ j

/-- A start claim in its turn: the entry asked is RETURNED, its line can start, and no FAULT came before. -/
theorem State.startOnce_turn (hturn : (s.seq f).startsOwed.head? = some i) (hfind : (s.seq f).find i = some e) :
    s.startOnce f i =
      if e.status = .returned ∧ (s.st i).startable = true ∧ LineReport.entered .fault ∉ (s.st i).toSequencer then
        ((s.startTaken f).onSeq f fun q => q.edit i fun e => { e with status := .easing }).onLine i fun c =>
          { c with toSequencer := [] }.takeStart
      else s.startTaken f := by
  have hseek : ((s.startTaken f).seq f).find i = some e := by
    rw [State.seq, State.face_startTaken]
    exact hfind
  have hcond : ((((s.startTaken f).seq f).find i).any (fun e => decide (e.status = .returned)) &&
      ((s.startTaken f).st i).startable && decide (LineReport.entered .fault ∉ ((s.startTaken f).st i).toSequencer)) = true ↔
      e.status = .returned ∧ (s.st i).startable = true ∧ LineReport.entered .fault ∉ (s.st i).toSequencer := by
    simp [hseek, State.st_startTaken, and_assoc]
  rw [State.startOnce, if_pos hturn]
  exact ite_congr (propext hcond) (fun _ => rfl) fun _ => rfl

theorem State.returnOnce_owed (h : i ∈ (s.seq f).returnsOwed) : s.returnOnce f i =
    (s.onLine i Station.takeReturn).onSeq f fun q =>
      { q with returnsOwed := q.returnsOwed.filter fun j => decide (j ≠ i) }.edit i
        (PlanEntry.returned ((s.onLine i Station.takeReturn).st i).state) := if_pos h

theorem State.returnOnce_waits (h : i ∉ (s.seq f).returnsOwed) : s.returnOnce f i = s := if_neg h

theorem PlanEntry.station_returned (found : LineState) (e : PlanEntry) : (e.returned found).station = e.station := by
  unfold PlanEntry.returned
  split <;> rfl

theorem PlanEntry.returned_easing (found : LineState) (h : e.status = .easing) :
    e.returned found = { e with status := returnStatus found .easing } := by
  rw [PlanEntry.returned, if_pos h, h]

/-- The sequencer after a return claim: the claim is spent and the entry takes the status of what it found. -/
theorem State.seq_returnOnce (h : i ∈ (s.seq f).returnsOwed) : (s.returnOnce f i).face f = { s.face f with
    sequencer := { s.seq f with returnsOwed := (s.seq f).returnsOwed.filter fun j => decide (j ≠ i) }.edit i
      (PlanEntry.returned ((s.onLine i Station.takeReturn).st i).state) } := by
  rw [State.returnOnce_owed h, State.face_onSeq_same, State.face_onLine, State.seq_onLine]

theorem State.find_returnOnce (h : i ∈ (s.seq f).returnsOwed) (hfind : (s.seq f).find i = some e)
    (he : e.status = .easing) : ((s.returnOnce f i).seq f).find i =
      some { e with status := returnStatus ((s.onLine i Station.takeReturn).st i).state .easing } := by
  have hedit := Sequencer.find_edit_same
    { s.seq f with returnsOwed := (s.seq f).returnsOwed.filter fun j => decide (j ≠ i) } i
    (PlanEntry.station_returned ((s.onLine i Station.takeReturn).st i).state)
  rw [State.seq, State.seq_returnOnce h]
  refine hedit.trans ?_
  rw [← PlanEntry.returned_easing _ he]
  exact congrArg (Option.map _) hfind

theorem State.not_mem_returnOnce (h : i ∈ (s.seq f).returnsOwed) : i ∉ ((s.returnOnce f i).seq f).returnsOwed := by
  rw [State.seq, State.seq_returnOnce h]
  exact fun hi => of_decide_eq_true (List.mem_filter.mp hi).2 rfl

/-- A return claim that finds its line out of EASING leaves the records. -/
theorem State.returnOnce_leaves (h : i ∈ (s.seq f).returnsOwed) (hs : (s.st i).state ≠ .easing) : s.returnOnce f i =
    s.onSeq f fun q => { q with returnsOwed := q.returnsOwed.filter fun j => decide (j ≠ i) }.edit i
      (PlanEntry.returned (s.st i).state) := by
  have hline : s.onLine i Station.takeReturn = s := State.onLine_of_eq (if_neg hs)
  rw [State.returnOnce_owed h, hline]

theorem State.expireStep_expires (ha : (s.seq f).active = true) (hfind : (s.seq f).find i = some e)
    (ht : e.timer.isSome = true) (hp : e.status.inProgress = true) : s.expireStep f i =
      (s.onSeq f fun q => q.edit i fun e => { e with timer := none, late := true }).setSt i ((s.st i).latch .stepLate) :=
  if_pos (by simp [ha, hfind, ht, hp])

end

/-- What a return claim leaves of a line it sends to TENDED. -/
theorem Station.returned_whole (c : Station) (h : c.state = .easing) : c.MovedTo c.takeReturn .tended ∧
    c.KeepsTags c.takeReturn ∧ c.KeepsClamp c.takeReturn ∧ c.takeReturn.holds = c.holds ∧ c.takeReturn.Emptied .idle ∧
    c.takeReturn.NoOptions ∧ c.takeReturn.attn = c.attn.changed .easing .tended := by
  have hreturn : c.takeReturn = c.change .tended := if_pos h
  rw [hreturn, ← h]
  exact ⟨c.movedTo_change .tended, c.keepsTags_change .tended, (c.keepsGround_change .tended).2.1, rfl,
    c.emptied_change (by decide), c.noOptions_change (by decide), rfl⟩

/-- Settles O35: each of the three steps in its turn and out of it. -/
theorem startReturnAndStepTimerActOnTheirEntry : Obligations.StartReturnAndStepTimerActOnTheirEntry := by
  intro f i e s h hf hlaw hfind
  refine ⟨fun rest howed hfault => ?_, fun hno => completes_startClaim h hf (State.startOnce_waits hno),
    fun howed he => ⟨fun hs => completes_returnClaim h hf ?_, fun status hstatus => completes_returnClaim h hf ?_⟩,
    fun hno => completes_returnClaim h hf (State.returnOnce_waits hno),
    fun hact htimer hprog => completes_stepTimerExpiry h hf ?_⟩
  · have hturn := State.startOnce_turn (show (s.seq f).startsOwed.head? = some i by rw [howed]; rfl) hfind
    refine ⟨fun he hs hh => completes_startClaim h hf ?_, fun hno => completes_startClaim h hf ?_⟩
    · have hstart : { s.st i with toSequencer := [] }.startable = true := Station.startable_iff.mpr ⟨hs, hh⟩
      rw [if_pos ⟨he, hstart, hfault⟩] at hturn
      obtain ⟨reports, hst⟩ := State.st_onLine_eq
        ((s.startTaken f).onSeq f fun q => q.edit i fun e => { e with status := .easing }) i
        fun c => { c with toSequencer := [] }.takeStart
      have hbefore : ((s.startTaken f).onSeq f fun q => q.edit i fun e => { e with status := .easing }).st i = s.st i :=
        (State.st_onFace _ _ _ _).trans (s.st_startTaken f i)
      have htake : { s.st i with toSequencer := [] }.takeStart = { s.st i with toSequencer := [] }.enterEasing :=
        if_pos hstart
      rw [hbefore, htake, ← hturn] at hst
      have hseq : (s.startOnce f i).seq f =
          { s.seq f with startsOwed := (s.seq f).startsOwed.tail }.edit i fun e => { e with status := .easing } := by
        rw [hturn, State.seq_onLine, State.seq_onSeq_same, State.seq, State.face_startTaken]
      obtain ⟨htags, hviews, hholds⟩ := Station.keeps_enterEasing { s.st i with toSequencer := [] }
      rw [hst, hseq]
      refine ⟨?_, ?_, Station.state_enterEasing _, hholds.trans hh, htags, hviews, ?_, rfl, rfl⟩
      · rw [hturn]
        exact State.onlyStationAndFace_onLine
          (State.onlyStationAndFace_onSeq (State.onlyStationAndFace_onSeq (.refl s i f) _) _) _
      · exact (Sequencer.find_edit_same _ i (g := fun e => { e with status := .easing }) fun _ => rfl).trans
          (congrArg (Option.map _) hfind)
      · exact congrArg List.tail howed
    · rw [hturn, if_neg]
      · rw [State.face_startTaken, howed]
        exact ⟨s.onlyFace_onFace f _, rfl⟩
      · rintro ⟨he, hstart, _⟩
        obtain ⟨hs, hh⟩ := Station.startable_iff.mp hstart
        rcases hno with hno | hno | hno
        · exact hno he
        · exact hno hs
        · exact hno hh
  · obtain ⟨reports, hst⟩ := s.st_onLine_eq i Station.takeReturn
    have hafter : (s.returnOnce f i).st i = { (s.st i).takeReturn with toSequencer := reports } := by
      rw [State.returnOnce_owed howed, ← hst]
      exact State.st_onFace _ _ _ _
    have hwhole := (s.st i).returned_whole hs
    have htended : ((s.onLine i Station.takeReturn).st i).state = .tended := by
      rw [hst]
      exact hwhole.1.1
    have hentry := State.find_returnOnce howed hfind he
    rw [htended] at hentry
    rw [hafter]
    obtain ⟨hmoved, htags, hclamp, hholds, hemptied, hoptions, hattn⟩ := hwhole
    refine ⟨?_, hentry, hmoved, htags, hclamp, hholds, hemptied, hoptions, hattn, State.not_mem_returnOnce howed⟩
    rw [State.returnOnce_owed howed]
    exact State.onlyStationAndFace_onSeq (State.onlyStationAndFace_onLine (.refl s i f) _) _
  · have hs : (s.st i).state ≠ .easing := by
      rintro hs
      simp [hs] at hstatus
    have hline : s.onLine i Station.takeReturn = s := State.onLine_of_eq (if_neg hs)
    have hentry := State.find_returnOnce howed hfind he
    have hgives : returnStatus (s.st i).state .easing = status := by
      rcases hstatus with ⟨hs | hs | hs, rfl⟩ | ⟨hs, rfl⟩ | ⟨hs | hs, rfl⟩ | ⟨hs, rfl⟩ <;> rw [hs] <;> rfl
    rw [hline, hgives] at hentry
    refine ⟨?_, hentry, State.not_mem_returnOnce howed, ?_, ?_⟩
    · rw [State.returnOnce_leaves howed hs]
      exact s.onlyFace_onFace f _
    · rw [State.seq, State.seq_returnOnce howed]
      rfl
    · rw [State.seq_returnOnce howed]
  · rw [State.expireStep_expires hact hfind htimer hprog]
    have hseq : ((s.onSeq f fun q => q.edit i fun e => { e with timer := none, late := true }).setSt i
        ((s.st i).latch .stepLate)).seq f = (s.seq f).edit i fun e => { e with timer := none, late := true } := by
      rw [State.seq, State.face_setSt]
      exact State.seq_onSeq_same s f _
    rw [hseq, Sequencer.find_edit_same _ _ (g := fun e => { e with timer := none, late := true }) fun _ => rfl, hfind]
    exact ⟨State.onlyStationAndFace_setSt (State.onlyStationAndFace_onSeq (.refl s i f) _) _, rfl,
      State.st_setSt_same _ _ _, rfl⟩

end Sys2Proof.Machine
end

section
/-! PROOF. The reports of a line and the entry that lists it (Table 6-5, R17, R124, R129, R131, R133). -/

namespace Sys2Proof.Machine

/-! ### The report at the front -/

/-- The part with a line's first report taken off. -/
def State.reportTaken (s : State) (i : StationId) (rest : List LineReport) : State :=
  s.setSt i { s.st i with toSequencer := rest }

section
variable {s : State} {f : Face} {i : StationId} {rest : List LineReport}

theorem State.face_reportTaken (s : State) (i : StationId) (rest : List LineReport) (f : Face) :
    (s.reportTaken i rest).face f = s.face f := State.face_setSt _ _ _ f

theorem State.seq_reportTaken (s : State) (i : StationId) (rest : List LineReport) (f : Face) :
    (s.reportTaken i rest).seq f = s.seq f := congrArg FaceState.sequencer (s.face_reportTaken i rest f)

/-- The first report is taken by the sequencer of the line's face. -/
theorem State.takeReportOf_front {p : LineReport → Bool} {r : LineReport} (hfront : (s.st i).toSequencer = r :: rest)
    (hp : p r = true) : s.takeReportOf i p = (s.reportTaken i rest).takeLineReport i r := by
  have hany : (s.st i).toSequencer.any p = true := by simp [hfront, hp]
  rw [State.takeReportOf, if_pos hany, hfront, State.takeLineReports]
  exact if_pos hp

theorem State.takeLineReport_entered (hf : s.faceOf i = some f) (ha : (s.seq f).active = true) (new : LineState) :
    s.takeLineReport i (.entered new) = s.takeEntered f i new := by
  unfold State.takeLineReport
  simp only [hf]
  exact if_pos ha

theorem State.takeLineReport_emptied (hf : s.faceOf i = some f) (ha : (s.seq f).active = true) :
    s.takeLineReport i .holdsEmptied = s.takeEmptied f i := by
  unfold State.takeLineReport
  simp only [hf]
  exact if_pos ha

end

section
variable {s : State} (h : s.inReset = false) {i : StationId} {f : Face} (hf : s.faceOf i = some f)
  (ha : (s.seq f).active = true) {rest : List LineReport} {P : State → Prop}
include h hf ha

theorem completes_stateReport {new : LineState} (hfront : (s.st i).toSequencer = .entered new :: rest)
    (hP : P ((s.reportTaken i rest).takeEntered f i new)) : Completes (.stateReport i) s P := by
  have htake : s.takeReportOf i LineReport.isEntered = (s.reportTaken i rest).takeEntered f i new :=
    (State.takeReportOf_front hfront rfl).trans
      (State.takeLineReport_entered ((s.faceOf_setSt i i _).trans hf) ((congrArg Sequencer.active (s.seq_reportTaken i rest f)).trans ha) new)
  refine ⟨_, ?_, hP⟩
  rw [← htake]
  exact live_running h _

theorem completes_holdStackEmptied (hfront : (s.st i).toSequencer = .holdsEmptied :: rest)
    (hP : P ((s.reportTaken i rest).takeEmptied f i)) : Completes (.holdStackEmptied i) s P := by
  have htake : (s.takeReportOf i fun r => !r.isEntered) = (s.reportTaken i rest).takeEmptied f i :=
    (State.takeReportOf_front hfront rfl).trans
      (State.takeLineReport_emptied ((s.faceOf_setSt i i _).trans hf) ((congrArg Sequencer.active (s.seq_reportTaken i rest f)).trans ha))
  refine ⟨_, ?_, hP⟩
  rw [← htake]
  exact live_running h _

end

/-! ### Table 6-5, row by row -/

section
variable {s : State} {f : Face} {i : StationId} {e : PlanEntry} (hfind : (s.seq f).find i = some e)
include hfind

theorem State.takeEntered_slack (he : e.status = .easing) :
    s.takeEntered f i .slack = s.onSeq f fun q => q.edit i fun e => { e with status := .slack } := by
  unfold State.takeEntered
  simp only [hfind, he]

theorem State.takeEntered_tended (he : e.status = .easing) :
    s.takeEntered f i .tended = s.onSeq f fun q => q.edit i fun e => { e with status := .returned } := by
  unfold State.takeEntered
  simp only [hfind, he]

theorem State.takeEntered_rewind (he : e.status = .slack) : s.takeEntered f i .rewind =
    ((s.onSeq f fun q => q.edit i fun e => { e with status := .done, timer := none }).testComplete f).lookOn f := by
  unfold State.takeEntered
  simp only [hfind, he]

theorem State.takeEntered_fault (he : e.status.inProgress = true) : s.takeEntered f i .fault = s.failEntry f i := by
  unfold State.takeEntered
  simp only [hfind]
  cases hs : e.status with
  | easing | returned | slack => rfl
  | waiting | blocked | done | skipped | failed => simp [hs, EntryStatus.inProgress] at he

theorem State.takeEntered_locking (he : e.status = .returned) : s.takeEntered f i .locking = s := by
  unfold State.takeEntered
  simp only [hfind, he]

theorem State.takeEntered_startable (he : e.status = .returned) {new : LineState} (hn : new = .tended ∨ new = .locked) :
    s.takeEntered f i new = s.oweStart f i := by
  unfold State.takeEntered
  rcases hn with rfl | rfl <;> simp only [hfind, he]

theorem State.takeEntered_finished (he : e.status = .done ∨ e.status = .skipped ∨ e.status = .failed) (new : LineState) :
    s.takeEntered f i new = s := by
  unfold State.takeEntered
  simp only [hfind]
  rcases he with he | he | he <;> rw [he]

theorem State.takeEntered_waiting (he : e.status = .waiting ∨ e.status = .blocked) (new : LineState) :
    s.takeEntered f i new = if (s.seq f).cursorStation = some i then s.lookOn f else s := by
  unfold State.takeEntered
  simp only [hfind]
  rcases he with he | he <;> rw [he]

theorem State.takeEmptied_blocked (he : e.status = .blocked) :
    s.takeEmptied f i = if (s.seq f).cursorStation = some i then s.lookOn f else s := by
  unfold State.takeEmptied
  simp only [hfind, he]

theorem State.takeEmptied_returned (he : e.status = .returned) : s.takeEmptied f i = s.oweStart f i := by
  unfold State.takeEmptied
  simp only [hfind, he]

theorem State.takeEmptied_other (hb : e.status ≠ .blocked) (hr : e.status ≠ .returned) : s.takeEmptied f i = s := by
  unfold State.takeEmptied
  cases hs : e.status with
  | blocked => exact absurd hs hb
  | returned => exact absurd hs hr
  | waiting | easing | slack | done | skipped | failed => simp only [hfind, hs]

end

/-! ### What a report leaves -/

theorem State.onlyPlan_reportTaken (s : State) (f : Face) (i : StationId) (rest : List LineReport) :
    s.OnlyPlan (s.reportTaken i rest) f := by
  refine ⟨⟨fun j => ?_, rfl, rfl, rfl, rfl, rfl⟩, fun g _ => s.face_reportTaken i rest g⟩
  rw [State.reportTaken, State.st_setSt]
  split
  · next hj => rw [hj]
  · rfl

theorem State.onlyPlan_failEntry (s : State) (f : Face) (i : StationId) : s.OnlyPlan (s.failEntry f i) f :=
  (s.onlyPlan_onSeq f _).trans (State.onlyPlan_failPause _ f)

theorem State.onlyPlan_oweStart (s : State) (f : Face) (i : StationId) : s.OnlyPlan (s.oweStart f i) f := by
  unfold State.oweStart
  split
  · exact s.onlyPlan_onSeq f _
  · exact .refl s f

theorem State.onlyPlan_takeEntered {s : State} {f : Face} {i : StationId} {e : PlanEntry}
    (hfind : (s.seq f).find i = some e) (new : LineState) : s.OnlyPlan (s.takeEntered f i new) f := by
  unfold State.takeEntered
  simp only [hfind]
  split
  case h_1 | h_2 => exact s.onlyPlan_onSeq f _
  case h_3 =>
    exact ((s.onlyPlan_onSeq f _).trans (State.onlyPlan_testComplete _ f)).trans (State.onlyPlan_lookOn _ f)
  case h_4 | h_5 | h_6 => exact s.onlyPlan_failEntry f i
  case h_7 | h_8 => exact s.onlyPlan_oweStart f i
  case h_9 | h_10 =>
    split
    · exact s.onlyPlan_lookOn f
    · exact .refl s f
  case h_11 => exact .refl s f

/-- An emptied hold stack changes the sequencer alone. -/
theorem State.takeEmptied_onSeq (s : State) (f : Face) (i : StationId) : ∃ g, s.takeEmptied f i = s.onSeq f g := by
  have hsame : ∃ g, s = s.onSeq f g := ⟨id, by cases f <;> rfl⟩
  unfold State.takeEmptied State.oweStart
  split
  · exact hsame
  · split
    · split
      · exact ⟨_, rfl⟩
      · exact hsame
    · split
      · exact ⟨_, rfl⟩
      · exact hsame
    · exact hsame

/-! ### The face after a report -/

theorem FaceState.failPaused_active {x : FaceState} (h : x.sequencer.active = true) :
    x.failPaused.sequencer.state = .paused .failed ∧
      (x.sequencer.state ≠ .paused .failed → x.failPaused.attn.planPaused = true) := by
  unfold FaceState.failPaused
  rcases (Sequencer.active_iff _).mp h with hs | ⟨r, hs⟩
  · rw [hs]
    exact ⟨rfl, fun _ => rfl⟩
  · cases r with
    | host => rw [hs]; exact ⟨rfl, fun _ => rfl⟩
    | failed => rw [hs]; exact ⟨hs, fun hno => absurd rfl hno⟩

/-- The face with the entry of station `i` FAILED, before the pause. -/
def FaceState.entryFailed (x : FaceState) (i : StationId) : FaceState :=
  { x with sequencer := x.sequencer.edit i fun e => { e with status := .failed, timer := none } }

theorem State.face_failEntry (s : State) (f : Face) (i : StationId) :
    (s.failEntry f i).face f = ((s.face f).entryFailed i).failPaused := by
  rw [State.failEntry, State.face_failPause, State.face_onSeq_same]
  rfl

theorem State.seq_oweStart {s : State} {f : Face} (h : (s.seq f).state = .running) (i : StationId) :
    (s.oweStart f i).seq f = { s.seq f with startsOwed := (s.seq f).startsOwed ++ [i] } := by
  rw [State.oweStart, if_pos h, State.seq_onSeq_same]

theorem State.seq_lookOn (s : State) (f : Face) : (s.lookOn f).seq f = (s.seq f).look := State.seq_onSeq_same s f _

theorem FaceState.find_tested (x : FaceState) (i : StationId) : x.tested.sequencer.find i = x.sequencer.find i :=
  congrArg (List.find? fun e : PlanEntry => decide (e.station = i)) x.entries_tested

theorem FaceState.find_failPaused (x : FaceState) (i : StationId) :
    x.failPaused.sequencer.find i = x.sequencer.find i :=
  congrArg (List.find? fun e : PlanEntry => decide (e.station = i)) x.entries_failPaused

/-- The face with the entry of station `i` DONE, before the tests. -/
def FaceState.entryDone (x : FaceState) (i : StationId) : FaceState :=
  { x with sequencer := x.sequencer.edit i fun e => { e with status := .done, timer := none } }

theorem State.face_takeEntered_rewind {s : State} {f : Face} {i : StationId} {e : PlanEntry}
    (hfind : (s.seq f).find i = some e) (he : e.status = .slack) :
    (s.takeEntered f i .rewind).face f = ((s.face f).entryDone i).tested.looked := by
  rw [State.takeEntered_rewind hfind he, State.face_lookOn, State.face_testComplete, State.face_onSeq_same]
  rfl

theorem Sequencer.mem_of_find {q : Sequencer} {i : StationId} {e : PlanEntry} (h : q.find i = some e) :
    e ∈ q.entries ∧ e.station = i :=
  ⟨List.mem_of_find?_eq_some h, by simpa using List.find?_some h⟩

theorem FaceState.complete_entryDone_iff {x : FaceState} {i : StationId} {e : PlanEntry}
    (hfind : x.sequencer.find i = some e) : (x.entryDone i).sequencer.complete = true ↔
      x.sequencer.cursor = x.sequencer.entries.length ∧
        ∀ y ∈ x.sequencer.entries, y.station ≠ i → y.status.finished = true := by
  have hentries := Sequencer.complete_edit_iff (q := x.sequencer) (i := i) (status := .done)
    (g := fun e => { e with status := .done, timer := none }) (fun _ => rfl) ⟨e, Sequencer.mem_of_find hfind⟩
  rw [Sequencer.complete_iff]
  refine and_congr (by simp [FaceState.entryDone]) (hentries.trans ⟨fun hd => hd.2, fun hd => ⟨rfl, hd⟩⟩)

/-- Settles O36: the rows of Table 6-5, and the emptied hold stack. -/
theorem reportsDriveTheEntriesOfThePlan : Obligations.ReportsDriveTheEntriesOfThePlan := by
  intro f i e new rest s h hf ha hlaw hfind
  have hseek : ((s.reportTaken i rest).seq f).find i = some e := by rw [State.seq_reportTaken, hfind]
  have hface := s.face_reportTaken i rest f
  have hseq := s.seq_reportTaken i rest f
  have hedit (g : PlanEntry → PlanEntry) (hg : ∀ e, (g e).station = e.station) :
      ((s.seq f).edit i g).find i = some (g e) := by rw [Sequencer.find_edit_same _ _ hg, hfind]; rfl
  refine ⟨fun hfront => completes_stateReport h hf ha hfront ?_,
    fun hfront => completes_holdStackEmptied h hf ha hfront ?_⟩
  · obtain ⟨⟨hst, hshore, hdevice⟩, hfaces⟩ :=
      (s.onlyPlan_reportTaken f i rest).trans (State.onlyPlan_takeEntered hseek new)
    refine ⟨fun g hg => hfaces g (by simpa using hg), hdevice, hshore, hst, fun he hn => ?_, fun he hn => ?_,
      fun he hn => ?_, fun he hn => ?_, fun he hn => ?_, fun he hn hrun => ?_, fun he => ?_, fun he hcur => ?_,
      fun he hcur => ?_⟩
    · rw [hn, State.takeEntered_slack hseek he, State.seq_onSeq_same, hseq]
      exact hedit (fun e => { e with status := .slack }) fun _ => rfl
    · rw [hn, State.takeEntered_tended hseek he, State.seq_onSeq_same, hseq]
      exact hedit (fun e => { e with status := .returned }) fun _ => rfl
    · have hafter := State.face_takeEntered_rewind hseek he
      rw [hface] at hafter
      have hafterSeq : ((s.reportTaken i rest).takeEntered f i .rewind).seq f = _ := congrArg FaceState.sequencer hafter
      have hcomplete := FaceState.complete_entryDone_iff (x := s.face f) hfind
      rw [hn, hafterSeq, hafter]
      refine ⟨?_, rfl, fun hrun hcur hothers => ?_, fun hopen => ?_⟩
      · exact (((s.face f).entryDone i).find_tested i).trans
          (hedit (fun e => { e with status := .done, timer := none }) fun _ => rfl)
      · rw [FaceState.tested_done (x := (s.face f).entryDone i) hrun (hcomplete.mpr ⟨hcur, hothers⟩)]
        exact ⟨rfl, rfl, rfl⟩
      · rw [FaceState.tested_of_not]
        · exact ⟨rfl, rfl, rfl⟩
        · rintro ⟨hrun, hc⟩
          obtain ⟨hcur, hothers⟩ := hcomplete.mp hc
          rcases hopen with hopen | hopen | ⟨x, hx, hne, hunfinished⟩
          · exact hopen hrun
          · exact hopen hcur
          · simp [hothers x hx hne] at hunfinished
    · have hafter := (s.reportTaken i rest).face_failEntry f i
      rw [hface] at hafter
      have hafterSeq : ((s.reportTaken i rest).failEntry f i).seq f = _ := congrArg FaceState.sequencer hafter
      rw [hn, State.takeEntered_fault hseek he, hafterSeq, hafter]
      obtain ⟨hstate, hpaused⟩ := FaceState.failPaused_active (x := (s.face f).entryFailed i) ha
      refine ⟨?_, hstate, hpaused⟩
      exact (((s.face f).entryFailed i).find_failPaused i).trans
        (hedit (fun e => { e with status := .failed, timer := none }) fun _ => rfl)
    · rw [hn, State.takeEntered_locking hseek he, hseq]
    · rw [State.takeEntered_startable hseek he hn, State.seq_oweStart (by rw [hseq, hrun]), hseq]
    · rw [State.takeEntered_finished hseek he, hface]
    · rw [State.takeEntered_waiting hseek he, if_pos (by rw [hseq, hcur]), State.seq_lookOn, hseq]
      rfl
    · rw [State.takeEntered_waiting hseek he, if_neg (by rwa [hseq]), hface]
  · obtain ⟨g, hg⟩ := State.takeEmptied_onSeq (s.reportTaken i rest) f i
    refine ⟨?_, ?_, fun he hcur => ?_, fun he hrun => ?_, fun hb hr => ?_⟩
    · rw [hg]
      exact State.onlyStationAndFace_onSeq (State.onlyStationAndFace_setSt (.refl s i f) _) g
    · rw [hg]
      exact (State.st_onFace _ _ _ _).trans (State.st_setSt_same _ _ _)
    · rw [State.takeEmptied_blocked hseek he, if_pos (by rw [hseq, hcur]), State.seq_lookOn, hseq]
      rfl
    · rw [State.takeEmptied_returned hseek he, State.seq_oweStart (by rw [hseq, hrun]), hseq]
    · rw [State.takeEmptied_other hseek hb hr, hface]

end Sys2Proof.Machine
end
